-- ==== Sys2Proof/Word.lean ====
section
/-!
DEFINITION. The words of the 2410: bit vectors of the widths R181 gives, the numbers that name its
ports, channels, groups, schedules and watch slots, and tables of a fixed number of like things.
-/
namespace Sys2Proof

abbrev Byte := BitVec 8
abbrev Half := BitVec 16
/-- Counts of oscillator edges and the two limits occupy three bytes (R181). -/
abbrev Tri := BitVec 24
abbrev Word := BitVec 32
/-- Hub time and every deadline: a 32-bit count of microseconds, wrapping (R21, R22). -/
abbrev Time := BitVec 32

/-- The three master ports. -/
abbrev PortId := Fin 3
/-- The twelve channels S0–S11 (R4). -/
abbrev ChannelId := Fin 12
/-- The three groups G0–G2 (R4). -/
abbrev GroupId := Fin 3
/-- The eight places of the schedule table (R70). -/
abbrev ScheduleId := Fin 8
/-- The eight watch slots of one port (R102). -/
abbrev SlotId := Fin 8
/-- Priorities 0–3, 3 highest. -/
abbrev Priority := Fin 4

/-- The two references (R4). -/
inductive RefId where
  | a
  | b
  deriving DecidableEq, Repr

/-- One value for each of the two references. -/
structure PerRef (α : Type) where
  a : α
  b : α
  deriving DecidableEq, Repr

def PerRef.read {α : Type} (t : PerRef α) : RefId → α
  | .a => t.a
  | .b => t.b

def PerRef.write {α : Type} (t : PerRef α) : RefId → α → PerRef α
  | .a, x => { t with a := x }
  | .b, x => { t with b := x }

/-- `n` like things, numbered from 0. -/
structure Table (n : Nat) (α : Type) where
  cells : List α
  size : cells.length = n
  deriving DecidableEq, Repr

/-- Every number of a table of `n`, in rising order. -/
def everyIndex : (n : Nat) → List (Fin n)
  | 0 => []
  | n + 1 => 0 :: (everyIndex n).map Fin.succ

theorem everyIndex_length (n : Nat) : (everyIndex n).length = n := by
  induction n with
  | zero => rfl
  | succ n ih => simp [everyIndex, ih]

theorem mem_everyIndex {n : Nat} (i : Fin n) : i ∈ everyIndex n := by
  induction n with
  | zero => exact i.elim0
  | succ n ih =>
    cases i using Fin.cases with
    | zero => simp [everyIndex]
    | succ j => simp [everyIndex, ih j]

def Table.fill {α : Type} (n : Nat) (x : α) : Table n α :=
  ⟨List.replicate n x, by simp⟩

def Table.read {α : Type} {n : Nat} (t : Table n α) (i : Fin n) : α :=
  t.cells[i.val]'(by rw [t.size]; exact i.isLt)

def Table.write {α : Type} {n : Nat} (t : Table n α) (i : Fin n) (x : α) : Table n α :=
  ⟨t.cells.set i.val x, by simp [t.size]⟩

def Table.map {α β : Type} {n : Nat} (f : α → β) (t : Table n α) : Table n β :=
  ⟨t.cells.map f, by simp [t.size]⟩

/-- The table whose entry `i` is `f i`. -/
def Table.tabulate {α : Type} (n : Nat) (f : Fin n → α) : Table n α :=
  ⟨(everyIndex n).map f, by simp [everyIndex_length]⟩

end Sys2Proof
end

