-- ==== Sys2Proof/Syntax.lean ====
section
/-!
DEFINITION. The commands the 2410 takes: one constructor per row of spec/opcode_table.json, in the
table's order, with the operands its rule gives it.

A row that ends a transaction whose request cannot be read as one of the 31 commands of R180 carries
`sdi`, the bits sampled on SDI at the rising edges of SCK, first sampled first (R161).
A row that is a command of R180 stands for the end of a full transaction with a good request: it
carries the port, the header tag (R182) and the parameters with the widths of R180, raw, so that
codes no encoding table lists can be sent too (R177).
-/
namespace Sys2Proof

inductive Instr where
  | hubReset
  | hubResetRelease
  | portResetAssert (p : PortId)
  | portResetRelease (p : PortId)
  | transactionStart (p : PortId)
  | shortTransaction (p : PortId) (sdi : List Bool)
  | linkError (p : PortId) (sdi : List Bool)
  | requestDiscarded (p : PortId) (sdi : List Bool)
  | repeatRequest (p : PortId) (sdi : List Bool)
  | unknownCommand (p : PortId) (sdi : List Bool)
  | nop (p : PortId) (tag : Half)
  | hello (p : PortId) (tag : Half) (client : Word)
  | bind (p : PortId) (tag : Half) (attention : Byte) (silenceMs : Half)
  | detach (p : PortId) (tag : Half)
  | portStatus (p : PortId) (tag : Half)
  | convert (p : PortId) (tag : Half) (channel gate priority : Byte)
  | cancel (p : PortId) (tag : Half) (target : Half)
  | queueStatus (p : PortId) (tag : Half)
  | readResult (p : PortId) (tag : Half) (channel : Byte)
  | fetch (p : PortId) (tag : Half)
  | schedAdd (p : PortId) (tag : Half) (channel gate priority : Byte) (periodMs : Word)
  | schedDelete (p : PortId) (tag : Half) (schedule : Byte)
  | schedPause (p : PortId) (tag : Half) (schedule : Byte)
  | schedResume (p : PortId) (tag : Half) (schedule : Byte)
  | schedStatus (p : PortId) (tag : Half) (schedule : Byte)
  | watchSet (p : PortId) (tag : Half) (slot channel : Byte) (low high hyst : Word)
      (notify priority : Byte)
  | watchClear (p : PortId) (tag : Half) (slot : Byte)
  | readNotices (p : PortId) (tag : Half) (start : Byte)
  | ackNotice (p : PortId) (tag : Half) (source : Byte) (generation : Half)
  | lease (p : PortId) (tag : Half) (group kind : Byte) (termMs : Word)
  | withdraw (p : PortId) (tag : Half) (target : Half)
  | renew (p : PortId) (tag : Half) (group kind : Byte) (termMs : Word)
  | release (p : PortId) (tag : Half) (group : Byte)
  | groupStatus (p : PortId) (tag : Half) (group : Byte)
  | readChannel (p : PortId) (tag : Half) (channel : Byte)
  | readHub (p : PortId) (tag : Half)
  | stageChannel (p : PortId) (tag : Half) (channel mask enabled reference : Byte)
      (gateLength settle : Half) (openLimit shortLimit : Tri)
  | stageReference (p : PortId) (tag : Half) (reference mask enabled : Byte)
      (settle cacheAgeMs holdOffMs : Half)
  | stageHub (p : PortId) (tag : Half) (mask : Byte) (ageStepMs extWaitMs : Half)
  | unstage (p : PortId) (tag : Half) (selector : Byte)
  | commit (p : PortId) (tag : Half) (selector : Byte)
  | responseReady (p : PortId)
  | bindWindowExpiry (p : PortId)
  | silenceExpiry (p : PortId)
  | leaseExpiry (g : GroupId)
  | scheduleDue (i : ScheduleId)
  | holdOffExpiry (r : RefId)
  | cacheExpiry (r : RefId)
  /-- `position`: the entry's place in the queue's creation order, 0 the oldest. -/
  | agingCapExpiry (position : Fin 24)
  | settleEnd
  | gateClose
  | stall
  | pairDeadlineExpiry
  | oscillatorEdge
  | gateRisingEdge
  | hubTimeAdvance
  deriving DecidableEq, Repr

end Sys2Proof
end

