-- ==== Sys2Proof/Decode.lean ====
section
/-!
DEFINITION. The commands that a word spells by the bits of spec/opcode_table.json. Every row's "fields" is
empty: no row is spelt by bits, and every word is refused. (The request frames of R180 and R182 are no
words of the table: Machine/Frame.lean reads them.)
-/
namespace Sys2Proof

def decodeTableWord (_nbits _w : Nat) : Option Instr := none

end Sys2Proof
end

