-- ==== Sys2Proof/Machine/Bytes.lean ====
section
/-!
DEFINITION. Bytes and bits of the link: multi-byte values most significant byte first (R181), the order
of bits on SDI and SDO (R161), and the CRC of R163.
-/
namespace Sys2Proof.Machine

def be16 (x : Half) : List Byte := [x.extractLsb' 8 8, x.extractLsb' 0 8]
def be24 (x : Tri) : List Byte := [x.extractLsb' 16 8, x.extractLsb' 8 8, x.extractLsb' 0 8]
def be32 (x : Word) : List Byte :=
  [x.extractLsb' 24 8, x.extractLsb' 16 8, x.extractLsb' 8 8, x.extractLsb' 0 8]

def byteOf (n : Nat) : Byte := BitVec.ofNat 8 n
def flagByte (b : Bool) : Byte := if b then 1 else 0

/-- Byte `i` of a run of bytes; a run that is too short reads 0 there (no slot is). -/
def byteAt (l : List Byte) (i : Nat) : Byte := l.getD i 0
def halfAt (l : List Byte) (i : Nat) : Half := byteAt l i ++ byteAt l (i + 1)
def triAt (l : List Byte) (i : Nat) : Tri := byteAt l i ++ halfAt l (i + 1)
def wordAt (l : List Byte) (i : Nat) : Word := halfAt l i ++ halfAt l (i + 2)

/-- R163: one incoming bit. -/
def crcBit (register : Half) (bit : Bool) : Half :=
  let shifted := register <<< 1
  if register.msb ^^ bit then shifted ^^^ 0x1021 else shifted

/-- The bits of a byte, most significant first (R161, R163). -/
def bitsOfByte (b : Byte) : List Bool :=
  [b.getLsbD 7, b.getLsbD 6, b.getLsbD 5, b.getLsbD 4,
   b.getLsbD 3, b.getLsbD 2, b.getLsbD 1, b.getLsbD 0]

/-- R163: the CRC of a run of bytes. -/
def crc16 (bytes : List Byte) : Half :=
  bytes.foldl (fun register b => (bitsOfByte b).foldl crcBit register) 0xFFFF

/-- R161: byte 0 of a slot is sent first, each byte most significant bit first. -/
def bitsOfBytes (bytes : List Byte) : List Bool := bytes.flatMap bitsOfByte

def byteOfBits (bits : List Bool) : Byte :=
  bits.foldl (fun b x => (b <<< 1) ||| (if x then 1 else 0)) 0

/-- R161: the `n` bytes received on the first `8 * n` rising edges of SCK. -/
def bytesOfBits : Nat → List Bool → List Byte
  | 0, _ => []
  | n + 1, bits => byteOfBits (bits.take 8) :: bytesOfBits n (bits.drop 8)

end Sys2Proof.Machine
end

