-- ==== Sys2Proof/Config.lean ====
section
/-!
DEFINITION. The numbers the manual fixes for every 2410. The manual leaves no value to the
implementation and no result open, so there is no free value here (log 22).
-/
namespace Sys2Proof.Config

/-- Places in the request queue (R45, R47). -/
def queueCapacity : Nat := 24
/-- Credits of one port (R51). -/
def creditBudget : Nat := 16
/-- The stall limit, in µs (R28, R29). -/
def stallLimit : Time := 2000
/-- A closing GATE edge comes at least this many µs after the opening one (R34). -/
def minExternalGate : Nat := 50
/-- The bind window, in µs (R147). -/
def bindWindow : Time := 250000
/-- The readiness interval, in µs (R166). -/
def readinessDelay : Time := 5
/-- The aging limit of a waiting entry, in µs (R56). -/
def agingLimit : Time := 2147483647
/-- Entries listed by QUEUE_STATUS (R69). -/
def listedEntries : Nat := 8
/-- Notices reported by one READ_NOTICES (R114). -/
def reportedNotices : Nat := 3
/-- Bytes of a slot and rising edges of SCK in a full transaction (R161). -/
def slotBytes : Nat := 64
def slotBits : Nat := 512
/-- Part identity and protocol revision reported by HELLO (R147, R183). -/
def partIdentity : List Byte := [0x4B, 0x4A, 0x24, 0x10]
def protocolRevision : Byte := 1

end Sys2Proof.Config
end

