-- ==== Sys2Proof/Machine/Records.lean ====
section
/-!
DEFINITION. The records the blocks of the 2410 hold, each with the fields of the rule that defines it,
and their values after a hub reset.

A field that exists only in one state of its record is held by that state's constructor: a deadline
that is "present only while BINDING" cannot be there in any other port state.
-/
namespace Sys2Proof.Machine

/-! ## Network front end (chapter 1) -/

/-- R1: the network connected to the oscillator. -/
inductive Selection where
  | none
  | sensor (c : ChannelId)
  | reference (r : RefId)
  deriving DecidableEq, Repr

/-! ## Channel table (chapter 1) -/

inductive GateSource where
  | timebase
  | external
  deriving DecidableEq, Repr

/-- The six configurable fields of a channel record (R5); times in µs. -/
structure ChannelSettings where
  enabled : Bool
  reference : RefId
  gateLength : Half
  settle : Half
  openLimit : Tri
  shortLimit : Tri
  deriving DecidableEq, Repr

/-- R5: a channel record. -/
structure ChannelRecord where
  settings : ChannelSettings
  revision : Half
  deriving DecidableEq, Repr

/-- R7: a reference record; settle time in µs, the other two times in ms. -/
structure RefRecord where
  enabled : Bool
  settle : Half
  cacheAgeMs : Half
  holdOffMs : Half
  deriving DecidableEq, Repr

/-- The channel table with the hub settings AGE_STEP and EXT_WAIT, both in ms (R8). -/
structure ChannelTable where
  channels : Table 12 ChannelRecord
  refs : PerRef RefRecord
  ageStepMs : Half
  extWaitMs : Half
  deriving DecidableEq, Repr

/-- R5, reset column. -/
def ChannelRecord.reset : ChannelRecord :=
  { settings := { enabled := false, reference := .a, gateLength := 1000, settle := 200,
                  openLimit := 16, shortLimit := 8000000 }
    revision := 0 }

/-- R7, reset column. -/
def RefRecord.reset : RefRecord :=
  { enabled := false, settle := 200, cacheAgeMs := 2000, holdOffMs := 1000 }

/-- R10. -/
def ChannelTable.reset : ChannelTable :=
  { channels := Table.fill 12 ChannelRecord.reset
    refs := ⟨RefRecord.reset, RefRecord.reset⟩
    ageStepMs := 500
    extWaitMs := 50 }

/-! ## Counting engine (chapter 2) -/

/-- N_ref and T_ref, or N_sens and T_sens: a count and its gate time in µs (R14). -/
structure Measured where
  count : Tri
  time : Word
  deriving DecidableEq, Repr

/-- The phase of the conversion in flight, with the deadlines that exist in it (R23). A count phase holds
the gate-open time, the stall deadline and `bound`: the phase deadline of a TIMEBASE gate (R28), the pair
deadline of an EXTERNAL one (R34). -/
inductive Phase where
  | settle (phaseDeadline : Time)
  | arm (pairDeadline : Time)
  | count (opened : Time) (stallDeadline : Time) (bound : Time)
  deriving DecidableEq, Repr

/-- R23: the context of the conversion in flight. While `refCount` is absent the engine is in the
reference phases (SETTLE_REF, ARM_REF, COUNT_REF); once N_ref and T_ref are there it is in the sensor
phases (SETTLE_SENS, ARM_SENS, COUNT_SENS). -/
structure Conversion where
  channel : ChannelId
  gate : GateSource
  reference : RefId
  revision : Half
  fromCache : Bool
  refCount : Option Measured
  phase : Phase
  deriving DecidableEq, Repr

/-- The seven names of the engine state (section 2.2). -/
inductive EngineState where
  | idle
  | settleRef
  | armRef
  | countRef
  | settleSens
  | armSens
  | countSens
  deriving DecidableEq, Repr

/-- R37. -/
inductive RefState where
  | disabled
  | unknown
  | valid
  | faulted
  deriving DecidableEq, Repr

/-- R38: the cached count of a reference. -/
structure RefCache where
  count : Tri
  gateLength : Half
  taken : Time
  deriving DecidableEq, Repr

/-- Section 2.6: what the engine keeps of one reference. -/
structure RefHealth where
  state : RefState
  cache : Option RefCache
  cacheExpiry : Option Time
  holdOff : Option Time
  deriving DecidableEq, Repr

/-- R43: DISABLED, no cache, no deadline. -/
def RefHealth.reset : RefHealth :=
  { state := .disabled, cache := none, cacheExpiry := none, holdOff := none }

/-- The engine: IDLE exactly when no conversion is there (R23). The edge counter stands in every phase; it
is cleared when a gate opens (R28, R34) and at the return to IDLE (log 18). -/
structure Engine where
  conversion : Option Conversion
  edgeCounter : Tri
  health : PerRef RefHealth
  deriving DecidableEq, Repr

/-- R23, R43. -/
def Engine.reset : Engine :=
  { conversion := none, edgeCounter := 0, health := ⟨RefHealth.reset, RefHealth.reset⟩ }

/-! ## Request queue (chapter 3) -/

/-- R46: a waiter's origin. -/
inductive Origin where
  | direct (tag : Half)
  | schedule (id : ScheduleId)
  deriving DecidableEq, Repr

/-- R46. -/
structure Waiter where
  port : PortId
  origin : Origin
  priority : Priority
  deriving DecidableEq, Repr

inductive EntryState where
  | pending
  | inFlight
  deriving DecidableEq, Repr

/-- R45; `agingDeadline` is the deadline of R56, absent once it has expired. -/
structure Entry where
  channel : ChannelId
  gate : GateSource
  state : EntryState
  arrival : Word
  created : Time
  agingDeadline : Option Time
  waiters : List Waiter
  deriving DecidableEq, Repr

/-- Entries in creation order, oldest first, and the arrival counter (R48). -/
structure RequestQueue where
  entries : List Entry
  arrivals : Word
  deriving DecidableEq, Repr

/-- R49. -/
def RequestQueue.reset : RequestQueue := { entries := [], arrivals := 0 }

/-! ## Schedule unit (chapter 4) -/

/-- R70: ACTIVE with its next due time, or PAUSED without one. -/
inductive ScheduleState where
  | active (nextDue : Time)
  | paused
  deriving DecidableEq, Repr

inductive MissCause where
  | none
  | waiting
  | unusable
  | noCredit
  | queueFull
  deriving DecidableEq, Repr

/-- R70. -/
structure Schedule where
  owner : PortId
  channel : ChannelId
  gate : GateSource
  priority : Priority
  periodMs : Word
  state : ScheduleState
  missCount : Half
  runCount : Word
  lastMiss : MissCause
  deriving DecidableEq, Repr

/-! ## Results and completions (chapter 5) -/

/-- The outcomes that are published (section 1.11). -/
inductive ResultStatus where
  | ok
  | short
  | open_
  | overrange
  | refFault
  | gateTimeout
  deriving DecidableEq, Repr

/-- A published outcome (R18, R84): every field of a result record whose status is not NONE, but for
the sequence number. -/
structure Outcome where
  status : ResultStatus
  ratio : Option Word
  ref : Option Measured
  sens : Option Measured
  reference : RefId
  fromCache : Bool
  gate : GateSource
  revision : Half
  completedAt : Time
  deriving DecidableEq, Repr

/-- R84: a result record. Status NONE is the absence of an outcome. -/
structure ResultRecord where
  seq : Word
  outcome : Option Outcome
  deriving DecidableEq, Repr

/-- R85. -/
def ResultRecord.reset : ResultRecord := { seq := 0, outcome := none }

inductive LeaseKind where
  | configure
  | exclusive
  deriving DecidableEq, Repr

/-- How a DIRECT or SCHEDULE request ended (R91): published, with the result copy, or not. -/
inductive RequestEnd where
  | published (seq : Word) (result : Outcome)
  | aborted
  | disabled
  deriving DecidableEq, Repr

/-- R90: a completion record, with the fields its origin gives it. -/
inductive Completion where
  | request (origin : Origin) (channel : ChannelId) (gate : GateSource) (ending : RequestEnd)
      (delivered : Time)
  | lease (tag : Half) (group : GroupId) (kind : LeaseKind) (expiry : Time) (delivered : Time)
  deriving DecidableEq, Repr

/-! ## Watch unit (chapter 6) -/

inductive Zone where
  | unknown
  | below
  | inside
  | above
  | fault
  deriving DecidableEq, Repr

/-- R102: the zones whose entry raises a notice. -/
structure NotifySet where
  below : Bool
  inside : Bool
  above : Bool
  fault : Bool
  deriving DecidableEq, Repr

/-- R102. -/
structure Watch where
  channel : ChannelId
  low : Word
  high : Word
  hyst : Word
  notify : NotifySet
  priority : Priority
  zone : Zone
  deriving DecidableEq, Repr

/-- The zones a notice can report (R109). -/
inductive NotifiedZone where
  | below
  | inside
  | above
  | fault
  deriving DecidableEq, Repr

/-- R108: the eleven sources of one port. -/
inductive NoticeSource where
  | slot (i : SlotId)
  | group (g : GroupId)
  deriving DecidableEq, Repr

/-- What a watch notice (R109) and a group notice (R112) each hold of their own. -/
inductive NoticeContent where
  | watch (slot : SlotId) (zone : NotifiedZone) (ratio : Option Word) (seq : Word)
  | group (group : GroupId) (releaseRequested revoked : Bool)
  deriving DecidableEq, Repr

/-- R109, R112. -/
structure Notice where
  content : NoticeContent
  changes : Byte
  generation : Half
  firstRaised : Time
  priority : Priority
  deriving DecidableEq, Repr

/-- One port's slots, notice list (head first) and generations: slots 0–7, then groups 0–2 (R110). -/
structure PortWatch where
  slots : Table 8 (Option Watch)
  notices : List Notice
  generations : Table 11 Half
  deriving DecidableEq, Repr

/-- R119, R120. -/
def PortWatch.reset : PortWatch :=
  { slots := Table.fill 8 none, notices := [], generations := Table.fill 11 0 }

/-! ## Lease unit (chapter 7) -/

/-- R122: FREE, or HELD with holder, kind and expiry. -/
inductive Lease where
  | free
  | held (holder : PortId) (kind : LeaseKind) (expiry : Time)
  deriving DecidableEq, Repr

/-- R123. -/
structure LeaseRequest where
  port : PortId
  tag : Half
  kind : LeaseKind
  termMs : Word
  deriving DecidableEq, Repr

/-- R122: a lease record; the wait list is oldest first. -/
structure GroupLease where
  lease : Lease
  waiting : List LeaseRequest
  deriving DecidableEq, Repr

/-- R135: a staged channel record. -/
structure StagedChannel where
  enabled : Option Bool
  reference : Option RefId
  gateLength : Option Half
  settle : Option Half
  openLimit : Option Tri
  shortLimit : Option Tri
  deriving DecidableEq, Repr

/-- R135: a staged reference record. -/
structure StagedRef where
  enabled : Option Bool
  settle : Option Half
  cacheAgeMs : Option Half
  holdOffMs : Option Half
  deriving DecidableEq, Repr

/-- R135: the hub staging buffer. -/
structure HubStaging where
  refs : PerRef (Option StagedRef)
  ageStepMs : Option Half
  extWaitMs : Option Half
  deriving DecidableEq, Repr

def HubStaging.empty : HubStaging :=
  { refs := ⟨none, none⟩, ageStepMs := none, extWaitMs := none }

/-- The lease unit. `staging` holds the staged record of each channel; the staging buffer of a group
is the part of it that belongs to the group's four channels (R135). -/
structure LeaseUnit where
  groups : Table 3 GroupLease
  staging : Table 12 (Option StagedChannel)
  hubStaging : HubStaging
  deriving DecidableEq, Repr

/-- R122, R135. -/
def LeaseUnit.reset : LeaseUnit :=
  { groups := Table.fill 3 { lease := .free, waiting := [] }
    staging := Table.fill 12 none
    hubStaging := HubStaging.empty }

/-! ## Port controllers (chapters 8 and 9) -/

/-- R179: the status codes. -/
inductive Status where
  | done
  | accepted
  | granted
  | queued
  | empty
  | idle
  | notReady
  | linkError
  | unknownCommand
  | notAttached
  | wrongState
  | alreadyAttached
  | badParam
  | unusable
  | tagInUse
  | noCredit
  | queueFull
  | duplicate
  | notFound
  | notHolder
  | heldAlready
  | contended
  | tableFull
  | rejected
  | stale
  deriving DecidableEq, Repr

/-- R173: the link flags. -/
structure LinkFlags where
  backlog : Bool
  isRepeat : Bool
  cqNonempty : Bool
  noticesPending : Bool
  deriving DecidableEq, Repr

/-- A response before its link flags and CRC are settled (R166, R171). -/
structure Response where
  status : Status
  tagEcho : Half
  payload : List Byte
  isRepeat : Bool
  deriving DecidableEq, Repr

/-- A slot ready to shift (R164): its bytes follow from these fields. -/
structure Slot where
  status : Status
  tagEcho : Half
  flags : LinkFlags
  payload : List Byte
  crc : Half
  deriving DecidableEq, Repr

/-- Section 9.2: the held response and its state. -/
inductive Held where
  | none
  | preparing (response : Response) (readyAt : Time)
  | ready (slot : Slot)
  | interrupted (slot : Slot)
  deriving DecidableEq, Repr

/-- The four names of the held response's state (section 9.2). -/
inductive HeldState where
  | none
  | preparing
  | ready
  | interrupted
  deriving DecidableEq, Repr

/-- R171: what the port remembers of the last executed request. -/
structure RepeatRecord where
  tag : Half
  crc : Half
  response : Response
  deriving DecidableEq, Repr

/-- A transaction whose end has not been taken: the state the held response had when it began (R167) and
the slot it shifts out (R165). -/
structure Transaction where
  began : HeldState
  slot : Slot
  deriving DecidableEq, Repr

/-- R144: what a port holds while ATTACHED; the silence limit in ms, 0 for none. -/
structure Attachment where
  client : Word
  attention : Bool
  silenceMs : Half
  silenceDeadline : Option Time
  deriving DecidableEq, Repr

/-- R144, R145. A port is OFFLINE exactly while its PRSTn is asserted (R146, R160). -/
inductive PortState where
  | offline
  | linked
  | binding (client : Word) (window : Time)
  | attached (attachment : Attachment)
  deriving DecidableEq, Repr

/-- R144, R156. -/
inductive DetachCause where
  | none
  | detach
  | silence
  | portReset
  | hubReset
  deriving DecidableEq, Repr

/-- R144, with the backlog marker of R169 and the transactions of R161 whose ends have not been taken,
oldest first. There is more than one only if SELn fell again while HCLK was stopped (R190). -/
structure PortController where
  state : PortState
  cause : DetachCause
  held : Held
  backlog : Bool
  repeatRecord : Option RepeatRecord
  linkErrors : Half
  transactions : List Transaction
  deriving DecidableEq, Repr

/-- The transaction whose end is taken next (log 23). -/
abbrev PortController.transaction (c : PortController) : Option Transaction := c.transactions.head?

/-- The transaction begun last: while SELn is low, the one whose slot SDOn carries (R161). -/
def PortController.shifting (c : PortController) : Option Transaction := c.transactions.getLast?

/-- R160, R175: a port controller after a hub reset, in the port state its PRSTn gives. -/
def PortController.reset (state : PortState) : PortController :=
  { state := state, cause := .hubReset, held := .none, backlog := false, repeatRecord := none,
    linkErrors := 0, transactions := [] }

end Sys2Proof.Machine
end

