-- ==== Sys2Proof/Machine/State.lean ====
section
/-!
DEFINITION. The state of the 2410, block by block (00_scope.md, Block Overview), the queue of commands
waiting to be taken, and the state right after a hub reset.
-/
namespace Sys2Proof.Machine

/-- Plain data: everything the manual gives the part. -/
structure State where
  /-- NFE (R1). -/
  selection : Selection
  /-- CHT (R5, R7, R8). -/
  config : ChannelTable
  /-- TBU: hub time (R21). -/
  hubTime : Time
  /-- TBU: RESET is held low (R189). -/
  inReset : Bool
  /-- CNE (R23, R37). -/
  engine : Engine
  /-- RQU (R45, R48). -/
  queue : RequestQueue
  /-- SCU (R70). -/
  schedules : Table 8 (Option Schedule)
  /-- RTB (R84). -/
  results : Table 12 ResultRecord
  /-- CQ0–CQ2, oldest record first (R92). -/
  completions : Table 3 (List Completion)
  /-- WCU (R102, R108, R110). -/
  watch : Table 3 PortWatch
  /-- LSU (R122, R135). -/
  leases : LeaseUnit
  /-- PCU0–PCU2 (R144). -/
  ports : Table 3 PortController
  /-- The model's own: the commands waiting to be taken, first in first out (log 1). -/
  pending : List Instr
  deriving DecidableEq, Repr

/-- No event of the manual stops the part: a refused command is answered with a status code (R176) and
a link fault is counted (R174). So no constructor is needed, and no meaning faults. -/
inductive Fault where
  deriving DecidableEq, Repr

inductive Refusal where
  /-- Raised by an arm of `exec` whose command has no meaning yet; safe. No arm raises it now. -/
  | notModelled (mnemonic : String)
  deriving DecidableEq, Repr

/-- The part right after a hub reset: RESET has risen, hub time is 0, and every port is LINKED.
DESIGN CHOICE: all PRSTn are high (log 7), RESET is high (log 8). Every other value is the manual's. -/
def State.reset : State :=
  { selection := .none
    config := ChannelTable.reset
    hubTime := 0
    inReset := false
    engine := Engine.reset
    queue := RequestQueue.reset
    schedules := Table.fill 8 none
    results := Table.fill 12 ResultRecord.reset
    completions := Table.fill 3 []
    watch := Table.fill 3 PortWatch.reset
    leases := LeaseUnit.reset
    ports := Table.fill 3 (PortController.reset .linked)
    pending := [] }

end Sys2Proof.Machine
end

