-- ==== Sys2Proof/Machine/Ops.lean ====
section
/-!
DEFINITION. The named operations over the state: one update per field of State and per numbered part
of a block, time, credits and tags, placing completion records, and the two ways a notice list changes.
Every meaning reads and writes the state through these.
-/
namespace Sys2Proof.Machine

/-! ## One update per block -/

def State.setSelection (s : State) (x : Selection) : State := { s with selection := x }
def State.setConfig (s : State) (x : ChannelTable) : State := { s with config := x }
def State.setHubTime (s : State) (x : Time) : State := { s with hubTime := x }
def State.setInReset (s : State) (x : Bool) : State := { s with inReset := x }
def State.setEngine (s : State) (x : Engine) : State := { s with engine := x }
def State.setQueue (s : State) (x : RequestQueue) : State := { s with queue := x }
def State.setSchedules (s : State) (x : Table 8 (Option Schedule)) : State := { s with schedules := x }
def State.setResults (s : State) (x : Table 12 ResultRecord) : State := { s with results := x }
def State.setCompletions (s : State) (x : Table 3 (List Completion)) : State :=
  { s with completions := x }
def State.setWatch (s : State) (x : Table 3 PortWatch) : State := { s with watch := x }
def State.setLeases (s : State) (x : LeaseUnit) : State := { s with leases := x }
def State.setPorts (s : State) (x : Table 3 PortController) : State := { s with ports := x }
def State.setPending (s : State) (x : List Instr) : State := { s with pending := x }

/-! ## One update per numbered part -/

def State.port (s : State) (p : PortId) : PortController := s.ports.read p
def State.setPort (s : State) (p : PortId) (x : PortController) : State :=
  s.setPorts (s.ports.write p x)

def State.cq (s : State) (p : PortId) : List Completion := s.completions.read p
def State.setCq (s : State) (p : PortId) (x : List Completion) : State :=
  s.setCompletions (s.completions.write p x)

def State.portWatch (s : State) (p : PortId) : PortWatch := s.watch.read p
def State.setPortWatch (s : State) (p : PortId) (x : PortWatch) : State :=
  s.setWatch (s.watch.write p x)

def State.schedule (s : State) (i : ScheduleId) : Option Schedule := s.schedules.read i
def State.setSchedule (s : State) (i : ScheduleId) (x : Option Schedule) : State :=
  s.setSchedules (s.schedules.write i x)

def State.result (s : State) (c : ChannelId) : ResultRecord := s.results.read c
def State.setResult (s : State) (c : ChannelId) (x : ResultRecord) : State :=
  s.setResults (s.results.write c x)

def State.group (s : State) (g : GroupId) : GroupLease := s.leases.groups.read g
def State.setGroup (s : State) (g : GroupId) (x : GroupLease) : State :=
  s.setLeases { s.leases with groups := s.leases.groups.write g x }

def State.setHubStaging (s : State) (x : HubStaging) : State :=
  s.setLeases { s.leases with hubStaging := x }
def State.setStaging (s : State) (x : Table 12 (Option StagedChannel)) : State :=
  s.setLeases { s.leases with staging := x }

def State.setConversion (s : State) (x : Option Conversion) : State :=
  s.setEngine { s.engine with conversion := x }

def State.setEdgeCounter (s : State) (x : Tri) : State :=
  s.setEngine { s.engine with edgeCounter := x }

def State.health (s : State) (r : RefId) : RefHealth := s.engine.health.read r
def State.setHealth (s : State) (r : RefId) (x : RefHealth) : State :=
  s.setEngine { s.engine with health := s.engine.health.write r x }

def State.entries (s : State) : List Entry := s.queue.entries
def State.setEntries (s : State) (x : List Entry) : State :=
  s.setQueue { s.queue with entries := x }

def State.channel (s : State) (c : ChannelId) : ChannelRecord := s.config.channels.read c
def State.refRecord (s : State) (r : RefId) : RefRecord := s.config.refs.read r

/-! ## Time and counting -/

/-- R22: the difference between hub time and the deadline, in 32-bit two's complement, is zero or
positive. -/
def reached (now deadline : Time) : Bool := !(now - deadline).msb

/-- R22: 1,000 µs per millisecond. -/
def msToUs {w : Nat} (ms : BitVec w) : Time := BitVec.ofNat 32 (ms.toNat * 1000)

/-- A count that stays at its greatest value (R70, R109, R174). -/
def saturatingSucc {w : Nat} (x : BitVec w) : BitVec w :=
  if x = BitVec.allOnes w then x else x + 1

/-! ## Groups, leases, usability -/

/-- R4. -/
def groupOf (c : ChannelId) : GroupId := ⟨c.val / 4, by omega⟩

def Lease.holder : Lease → Option PortId
  | .free => none
  | .held p _ _ => some p

/-- The port holding the group, if any (R122). -/
def State.holder (s : State) (g : GroupId) : Option PortId := (s.group g).lease.holder

def State.holds (s : State) (p : PortId) (g : GroupId) : Bool := decide (s.holder g = some p)

/-- R136: the hub lease. -/
def State.holdsAll (s : State) (p : PortId) : Bool := s.holds p 0 && s.holds p 1 && s.holds p 2

/-- R11. -/
def ChannelTable.usable (t : ChannelTable) (c : ChannelId) : Bool :=
  (t.channels.read c).settings.enabled &&
    (t.refs.read (t.channels.read c).settings.reference).enabled

def State.usable (s : State) (c : ChannelId) : Bool := s.config.usable c

def PortState.isAttached : PortState → Bool
  | .attached _ => true
  | _ => false

def State.isAttached (s : State) (p : PortId) : Bool := (s.port p).state.isAttached

/-! ## Credits and tags -/

/-- The waiters owed to `p` in a list of entries. -/
def waitersOf (p : PortId) (entries : List Entry) : Nat :=
  (entries.map fun e => e.waiters.countP fun w => decide (w.port = p)).sum

/-- The waiting lease requests of `p`, in all three wait lists. -/
def State.leaseRequestsOf (s : State) (p : PortId) : Nat :=
  ((everyIndex 3).map fun g => (s.group g).waiting.countP fun q => decide (q.port = p)).sum

/-- R51: what a port's credits are held by. -/
def State.holdings (s : State) (p : PortId) : Nat :=
  (s.cq p).length + waitersOf p s.entries + s.leaseRequestsOf p

/-- R51. -/
def State.freeCredits (s : State) (p : PortId) : Nat := Config.creditBudget - s.holdings p

/-- R94: the record is of DIRECT or LEASE origin and carries the tag. -/
def Completion.carriesTag (tag : Half) : Completion → Bool
  | .request (.direct t) _ _ _ _ => decide (t = tag)
  | .request (.schedule _) _ _ _ _ => false
  | .lease t _ _ _ _ => decide (t = tag)

def Waiter.isDirectOf (p : PortId) (tag : Half) (w : Waiter) : Bool :=
  decide (w.port = p) && decide (w.origin = .direct tag)

def LeaseRequest.isOf (p : PortId) (tag : Half) (q : LeaseRequest) : Bool :=
  decide (q.port = p) && decide (q.tag = tag)

/-- R50 check 4, R94: a nonzero tag that an outstanding item of the port carries. -/
def State.tagInUse (s : State) (p : PortId) (tag : Half) : Bool :=
  decide (tag ≠ 0) &&
    (s.entries.any (fun e => e.waiters.any (Waiter.isDirectOf p tag)) ||
      (everyIndex 3).any (fun g => (s.group g).waiting.any (LeaseRequest.isOf p tag)) ||
      (s.cq p).any (Completion.carriesTag tag))

/-! ## Completion queues -/

/-- R92: a record is placed at the tail. -/
def State.place (s : State) (p : PortId) (r : Completion) : State := s.setCq p (s.cq p ++ [r])

/-- R78: a delivery to a SCHEDULE waiter advances its schedule's run count. -/
def State.countRun (s : State) : Origin → State
  | .direct _ => s
  | .schedule i => s.setSchedule i ((s.schedule i).map fun c => { c with runCount := c.runCount + 1 })

/-! ## Notice lists -/

def NoticeContent.source : NoticeContent → NoticeSource
  | .watch i _ _ _ => .slot i
  | .group g _ _ => .group g

def Notice.source (n : Notice) : NoticeSource := n.content.source

/-- R110, R183: slots are sources 0–7, groups 8–10. -/
def NoticeSource.index : NoticeSource → Fin 11
  | .slot i => ⟨i.val, by omega⟩
  | .group g => ⟨8 + g.val, by omega⟩

/-- R113: after every notice of equal or higher priority, before every notice of lower priority. -/
def insertNotice (n : Notice) : List Notice → List Notice
  | [] => [n]
  | m :: rest => if n.priority ≤ m.priority then m :: insertNotice n rest else n :: m :: rest

/-- What a raising makes of the content of a notice that stands: a watch notice takes the new content
(R111); a group notice keeps the flags it has and takes the raised one (R112). -/
def NoticeContent.updatedBy (old raised : NoticeContent) : NoticeContent :=
  match old, raised with
  | .group g rel rev, .group _ rel' rev' => .group g (rel || rel') (rev || rev')
  | _, _ => raised

/-- R110, R111, R112: a raising on the source of `raised` at hub time `now`. -/
def PortWatch.raise (w : PortWatch) (raised : NoticeContent) (priority : Priority) (now : Time) :
    PortWatch :=
  let source := raised.source
  let generation := w.generations.read source.index + 1
  { w with
    generations := w.generations.write source.index generation
    notices :=
      if w.notices.any fun n => decide (n.source = source) then
        w.notices.map fun n =>
          if n.source = source then
            { n with content := n.content.updatedBy raised, changes := saturatingSucc n.changes,
                     generation := generation }
          else n
      else
        insertNotice { content := raised, changes := 1, generation := generation,
                       firstRaised := now, priority := priority } w.notices }

/-- The removal of a source's notice closes the gap; the generation is kept (R110, R113). -/
def PortWatch.dropNotice (w : PortWatch) (source : NoticeSource) : PortWatch :=
  { w with notices := w.notices.filter fun n => decide (n.source ≠ source) }

def PortWatch.hasNotice (w : PortWatch) (source : NoticeSource) : Bool :=
  w.notices.any fun n => decide (n.source = source)

/-- R112: a group notice of priority 3 in the list of port `p`. -/
def State.raiseGroup (s : State) (p : PortId) (g : GroupId) (releaseRequested revoked : Bool) : State :=
  s.setPortWatch p ((s.portWatch p).raise (.group g releaseRequested revoked) 3 s.hubTime)

end Sys2Proof.Machine
end

