-- ==== Sys2Proof/Machine/Flags.lean ====
section
/-!
DEFINITION. Status codes, link flags, the slots a port controller shifts, and the attention output.
-/
namespace Sys2Proof.Machine

/-- R179. -/
def Status.code : Status → Byte
  | .done => 0x00
  | .accepted => 0x01
  | .granted => 0x02
  | .queued => 0x03
  | .empty => 0x04
  | .idle => 0x05
  | .notReady => 0x06
  | .linkError => 0x07
  | .unknownCommand => 0x10
  | .notAttached => 0x11
  | .wrongState => 0x12
  | .alreadyAttached => 0x13
  | .badParam => 0x14
  | .unusable => 0x15
  | .tagInUse => 0x16
  | .noCredit => 0x17
  | .queueFull => 0x18
  | .duplicate => 0x19
  | .notFound => 0x1A
  | .notHolder => 0x1B
  | .heldAlready => 0x1C
  | .contended => 0x1D
  | .tableFull => 0x1E
  | .rejected => 0x1F
  | .stale => 0x20

/-- R182: BACKLOG bit 3, REPEAT bit 2, CQ_NONEMPTY bit 1, NOTICES_PENDING bit 0. -/
def LinkFlags.byte (f : LinkFlags) : Byte :=
  (if f.backlog then 8 else 0) ||| (if f.isRepeat then 4 else 0) |||
    (if f.cqNonempty then 2 else 0) ||| (if f.noticesPending then 1 else 0)

/-- R97: the completion unit's report to the port controller. -/
def State.cqNonempty (s : State) (p : PortId) : Bool := !(s.cq p).isEmpty

/-- R118: the watch unit's report to the port controller. -/
def State.noticesPending (s : State) (p : PortId) : Bool := !(s.portWatch p).notices.isEmpty

/-- R173: the link flags of port `p` as they stand. -/
def State.linkFlags (s : State) (p : PortId) (isRepeat : Bool) : LinkFlags :=
  { backlog := (s.port p).backlog, isRepeat := isRepeat, cqNonempty := s.cqNonempty p,
    noticesPending := s.noticesPending p }

/-- R164, R182: bytes 0 to LEN of a response slot. LEN counts STATUS, tag echo, flags and payload. -/
def slotHead (status : Status) (tagEcho : Half) (flags : LinkFlags) (payload : List Byte) : List Byte :=
  [byteOf (payload.length + 4), status.code] ++ be16 tagEcho ++ [flags.byte] ++ payload

/-- R163, R166: a response with its flags sampled and its CRC computed. -/
def sealSlot (r : Response) (flags : LinkFlags) : Slot :=
  { status := r.status, tagEcho := r.tagEcho, flags := flags, payload := r.payload,
    crc := crc16 (slotHead r.status r.tagEcho flags r.payload) }

/-- R165: a slot composed at the fall of SELn, with tag echo 0 and no payload (R164). -/
def State.composed (s : State) (p : PortId) (status : Status) : Slot :=
  sealSlot { status := status, tagEcho := 0, payload := [], isRepeat := false } (s.linkFlags p false)

/-- R182: the 64 bytes of a slot, padded with 0x00. -/
def Slot.bytes (x : Slot) : List Byte :=
  let head := slotHead x.status x.tagEcho x.flags x.payload ++ be16 x.crc
  head ++ List.replicate (Config.slotBytes - head.length) 0

/-- R161: what SDOn carries in a transaction: bit `k` of the slot, and low after the 512th. -/
def Transaction.sdo (t : Transaction) (k : Nat) : Bool := (bitsOfBytes t.slot.bytes).getD k false

def PortState.attention : PortState → Bool
  | .attached a => a.attention
  | _ => false

/-- R144: 0 in every state but ATTACHED (R160). -/
def PortState.silenceMs : PortState → Half
  | .attached a => a.silenceMs
  | _ => 0

/-- R157, R159: the identifier reported to other ports; zero unless ATTACHED. -/
def PortState.clientInForce : PortState → Word
  | .attached a => a.client
  | .binding _ _ => 0
  | .offline => 0
  | .linked => 0

/-- R158: ATNn is asserted exactly when the port is ATTACHED with attention enabled and its completion
queue or notice list is non-empty. A computed view; its change has no delay (log 21). -/
def State.atnAsserted (s : State) (p : PortId) : Bool :=
  (s.port p).state.attention && (s.cqNonempty p || s.noticesPending p)

end Sys2Proof.Machine
end

