-- ==== Sys2Proof/Machine/Layout.lean ====
section
/-!
DEFINITION. The codes of R183 and the payload layouts of R184 to R187, byte for byte. A field that its
record holds as absent is sent as zero bytes in its place (R181).
-/
namespace Sys2Proof.Machine

/-! ## Codes (R183) -/

def GateSource.code : GateSource → Byte
  | .timebase => 0
  | .external => 1

def refCode : RefId → Byte
  | .a => 0
  | .b => 1

def LeaseKind.code : LeaseKind → Byte
  | .configure => 0
  | .exclusive => 1

def Zone.code : Zone → Byte
  | .unknown => 0
  | .below => 1
  | .inside => 2
  | .above => 3
  | .fault => 4

/-- R186: the zone entered, in two bits. -/
def NotifiedZone.code : NotifiedZone → Byte
  | .below => 0
  | .inside => 1
  | .above => 2
  | .fault => 3

def ResultStatus.code : ResultStatus → Byte
  | .ok => 1
  | .short => 2
  | .open_ => 3
  | .overrange => 4
  | .refFault => 5
  | .gateTimeout => 6

def ResultRecord.statusCode (r : ResultRecord) : Byte :=
  match r.outcome with
  | none => 0
  | some o => o.status.code

def RequestEnd.code : RequestEnd → Byte
  | .published _ o => o.status.code
  | .aborted => 7
  | .disabled => 8

def leaseGrantedCode : Byte := 9

def EntryState.code : EntryState → Byte
  | .pending => 0
  | .inFlight => 1

def EngineState.code : EngineState → Byte
  | .idle => 0
  | .settleRef => 1
  | .armRef => 2
  | .countRef => 3
  | .settleSens => 4
  | .armSens => 5
  | .countSens => 6

def RefState.code : RefState → Byte
  | .disabled => 0
  | .unknown => 1
  | .valid => 2
  | .faulted => 3

def PortState.code : PortState → Byte
  | .offline => 0
  | .linked => 1
  | .binding _ _ => 2
  | .attached _ => 3

def DetachCause.code : DetachCause → Byte
  | .none => 0
  | .detach => 1
  | .silence => 2
  | .portReset => 3
  | .hubReset => 4

def ScheduleState.code : ScheduleState → Byte
  | .active _ => 0
  | .paused => 1

/-- Code 5, LATE, stands in R183 and no rule gives a miss that cause (log 15). -/
def MissCause.code : MissCause → Byte
  | .none => 0
  | .waiting => 1
  | .unusable => 2
  | .noCredit => 3
  | .queueFull => 4

def Lease.code : Lease → Byte
  | .free => 0
  | .held _ _ _ => 1

def absentPort : Byte := 0xFF

def finCode {n : Nat} (i : Fin n) : Byte := byteOf i.val

def portOrAbsent (p : Option PortId) : Byte := p.elim absentPort finCode

/-! ## Result block (R184) -/

def measuredBytes (m : Option Measured) : List Byte :=
  be24 (m.elim 0 Measured.count) ++ be32 (m.elim 0 Measured.time)

/-- R184: ratio present 7, N_ref and T_ref present 6, N_sens and T_sens present 5, reference 4,
from-cache 3, gate source 2, reference and the rest present 1. -/
def Outcome.attributes (o : Outcome) : Byte :=
  (if o.ratio.isSome then 0x80 else 0) ||| (if o.ref.isSome then 0x40 else 0) |||
    (if o.sens.isSome then 0x20 else 0) ||| (if o.reference = .b then 0x10 else 0) |||
    (if o.fromCache then 0x08 else 0) ||| (if o.gate = .external then 0x04 else 0) ||| 0x02

def outcomeBlock (seq : Word) (o : Outcome) : List Byte :=
  be32 seq ++ [o.attributes] ++ be32 (o.ratio.getD 0) ++ measuredBytes o.ref ++ measuredBytes o.sens ++
    be16 o.revision ++ be32 o.completedAt

/-- R184; a record of status NONE has a block that is zero but for its sequence number. -/
def ResultRecord.block (r : ResultRecord) : List Byte :=
  match r.outcome with
  | none => be32 r.seq ++ List.replicate 25 0
  | some o => outcomeBlock r.seq o

/-! ## Completion payload (R185) -/

def Origin.bytes : Origin → List Byte
  | .direct tag => 0 :: be16 tag
  | .schedule i => [1, 0, finCode i]

def RequestEnd.block : RequestEnd → List Byte
  | .published seq o => outcomeBlock seq o
  | .aborted => List.replicate 29 0
  | .disabled => List.replicate 29 0

/-- R185, bytes 0–38. -/
def Completion.bytes : Completion → List Byte
  | .request origin c gate ending delivered =>
    origin.bytes ++ [finCode c, ending.code, gate.code] ++ ending.block ++ be32 delivered
  | .lease tag g kind expiry delivered =>
    2 :: be16 tag ++ [finCode g, leaseGrantedCode, kind.code] ++ be32 expiry ++
      List.replicate 25 0 ++ be32 delivered

/-! ## Notice payload (R186) -/

/-- R186, byte 0 of one notice. -/
def Notice.head (n : Notice) : Byte :=
  (finCode n.source.index <<< 4) |||
    (match n.content with
      | .watch _ zone _ _ => zone.code <<< 2
      | .group _ rel rev => (if rel then 8 else 0) ||| (if rev then 4 else 0)) |||
    finCode n.priority

/-- R186, the 16 bytes of one notice. -/
def Notice.bytes (n : Notice) : List Byte :=
  [n.head, n.changes] ++ be16 n.generation ++
    (match n.content with
      | .watch _ _ ratio seq => be32 (ratio.getD 0) ++ be32 seq
      | .group _ _ _ => List.replicate 8 0) ++
    be32 n.firstRaised

/-- R186: one byte of the slot summary. -/
def slotSummary : Option Watch → Byte
  | none => 0xFF
  | some w => (w.zone.code <<< 5) ||| finCode w.channel

/-! ## Staged forms (R187) -/

def bitIf (given : Bool) (i : Nat) : Byte := if given then 1 <<< i else 0

def StagedChannel.bytes (c : ChannelId) (x : StagedChannel) : List Byte :=
  [finCode c,
   bitIf x.enabled.isSome 0 ||| bitIf x.reference.isSome 1 ||| bitIf x.gateLength.isSome 2 |||
     bitIf x.settle.isSome 3 ||| bitIf x.openLimit.isSome 4 ||| bitIf x.shortLimit.isSome 5,
   x.enabled.elim 0 flagByte, x.reference.elim 0 refCode] ++
    be16 (x.gateLength.getD 0) ++ be16 (x.settle.getD 0) ++ be24 (x.openLimit.getD 0) ++
    be24 (x.shortLimit.getD 0)

def StagedRef.bytes (r : RefId) (x : StagedRef) : List Byte :=
  [refCode r,
   bitIf x.enabled.isSome 0 ||| bitIf x.settle.isSome 1 ||| bitIf x.cacheAgeMs.isSome 2 |||
     bitIf x.holdOffMs.isSome 3,
   x.enabled.elim 0 flagByte] ++
    be16 (x.settle.getD 0) ++ be16 (x.cacheAgeMs.getD 0) ++ be16 (x.holdOffMs.getD 0)

def hubFormBytes (ageStepMs extWaitMs : Option Half) : List Byte :=
  [bitIf ageStepMs.isSome 0 ||| bitIf extWaitMs.isSome 1] ++
    be16 (ageStepMs.getD 0) ++ be16 (extWaitMs.getD 0)

end Sys2Proof.Machine
end

