-- ==== Sys2Proof/Machine/Operands.lean ====
section
/-!
DEFINITION. The parameters of the commands: the codes of R183 read back, the range checks of R177, and
the staged-field forms of R187. `none` is a parameter that fails its range check (BAD_PARAM).
-/
namespace Sys2Proof.Machine

def inRange {w : Nat} (lo hi : Nat) (x : BitVec w) : Bool :=
  decide (lo ≤ x.toNat) && decide (x.toNat ≤ hi)

def ranged {w : Nat} (lo hi : Nat) (x : BitVec w) : Option (BitVec w) :=
  if inRange lo hi x then some x else none

/-- A number below `n` (channels, groups, ids, slots, priorities). -/
def numbered (n : Nat) (b : Byte) : Option (Fin n) :=
  if h : b.toNat < n then some ⟨b.toNat, h⟩ else none

def yesNo (b : Byte) : Option Bool :=
  if b = 0 then some false else if b = 1 then some true else none

def gateOf (b : Byte) : Option GateSource :=
  if b = 0 then some .timebase else if b = 1 then some .external else none

def refOf (b : Byte) : Option RefId :=
  if b = 0 then some .a else if b = 1 then some .b else none

def kindOf (b : Byte) : Option LeaseKind :=
  if b = 0 then some .configure else if b = 1 then some .exclusive else none

/-- R183: 0–7 watch slots, 8–10 groups. -/
def sourceOf (b : Byte) : Option NoticeSource :=
  if h : b.toNat < 8 then some (.slot ⟨b.toNat, h⟩)
  else if h : b.toNat < 11 then some (.group ⟨b.toNat - 8, by omega⟩)
  else none

/-- R183, R177: bits 4–7 are undefined in a notify set. -/
def notifyOf (b : Byte) : Option NotifySet :=
  if b.toNat < 16 then
    some { below := b.getLsbD 0, inside := b.getLsbD 1, above := b.getLsbD 2, fault := b.getLsbD 3 }
  else none

/-- The terms of LEASE and RENEW and the period of SCHED_ADD: 10–600,000 ms (R71, R124, R126). -/
def termOf (ms : Word) : Option Word := ranged 10 600000 ms

/-- R149: 0, or 50–60,000 ms. -/
def silenceOf (ms : Half) : Option Half := if ms = 0 then some 0 else ranged 50 60000 ms

/-- R8, R138: 0, or 10–10,000 ms. -/
def ageStepOf (ms : Half) : Option Half := if ms = 0 then some 0 else ranged 10 10000 ms

/-- The selector of UNSTAGE: a channel, or `none` for HUB (R183). -/
def unstageSelector (b : Byte) : Option (Option ChannelId) :=
  if b = 0xFF then some none else (numbered 12 b).map some

/-- The selector of COMMIT: a group, or `none` for HUB (R183). -/
def commitSelector (b : Byte) : Option (Option GroupId) :=
  if b = 0xFF then some none else (numbered 3 b).map some

/-- R187: a field position whose mask bit is clear is ignored, whatever it holds; one whose bit is set
carries a value that must be good. -/
def formField {α : Type} (given : Bool) (value : Option α) : Option (Option α) :=
  if given then value.map some else some none

/-- R137, R187: the fields a STAGE_CHANNEL gives. -/
def channelForm (mask enabled reference : Byte) (gateLength settle : Half)
    (openLimit shortLimit : Tri) : Option StagedChannel :=
  if mask = 0 ∨ 64 ≤ mask.toNat then none else
  match formField (mask.getLsbD 0) (yesNo enabled), formField (mask.getLsbD 1) (refOf reference),
    formField (mask.getLsbD 2) (ranged 100 65535 gateLength),
    formField (mask.getLsbD 3) (ranged 0 5000 settle),
    formField (mask.getLsbD 4) (ranged 1 1000000 openLimit),
    formField (mask.getLsbD 5) (ranged 2 16777215 shortLimit) with
  | some en, some rf, some gl, some st, some ol, some sl =>
    some { enabled := en, reference := rf, gateLength := gl, settle := st, openLimit := ol,
           shortLimit := sl }
  | _, _, _, _, _, _ => none

/-- R138, R187: the fields a STAGE_REFERENCE gives. -/
def referenceForm (mask enabled : Byte) (settle cacheAgeMs holdOffMs : Half) : Option StagedRef :=
  if mask = 0 ∨ 16 ≤ mask.toNat then none else
  match formField (mask.getLsbD 0) (yesNo enabled), formField (mask.getLsbD 1) (ranged 0 5000 settle),
    formField (mask.getLsbD 2) (ranged 0 60000 cacheAgeMs),
    formField (mask.getLsbD 3) (ranged 10 60000 holdOffMs) with
  | some en, some st, some ca, some ho =>
    some { enabled := en, settle := st, cacheAgeMs := ca, holdOffMs := ho }
  | _, _, _, _ => none

/-- R138, R187: the settings a STAGE_HUB gives: AGE_STEP, then EXT_WAIT. -/
def hubForm (mask : Byte) (ageStepMs extWaitMs : Half) : Option (Option Half × Option Half) :=
  if mask = 0 ∨ 4 ≤ mask.toNat then none else
  match formField (mask.getLsbD 0) (ageStepOf ageStepMs),
    formField (mask.getLsbD 1) (ranged 1 1000 extWaitMs) with
  | some a, some e => some (a, e)
  | _, _ => none

end Sys2Proof.Machine
end

