-- ==== Sys2Proof/Machine/Frame.lean ====
section
/-!
DEFINITION. The request frame: the 31 commands with their codes, lengths and parameters (R180), the
request slot (R182) and the checks at the end of a full transaction (R162).
-/
namespace Sys2Proof.Machine

/-- R180: a command with its parameters, each with the width the table gives, raw (R177). -/
inductive Command where
  | nop
  | hello (client : Word)
  | bind (attention : Byte) (silenceMs : Half)
  | detach
  | portStatus
  | convert (channel gate priority : Byte)
  | cancel (target : Half)
  | queueStatus
  | readResult (channel : Byte)
  | fetch
  | schedAdd (channel gate priority : Byte) (periodMs : Word)
  | schedDelete (schedule : Byte)
  | schedPause (schedule : Byte)
  | schedResume (schedule : Byte)
  | schedStatus (schedule : Byte)
  | watchSet (slot channel : Byte) (low high hyst : Word) (notify priority : Byte)
  | watchClear (slot : Byte)
  | readNotices (start : Byte)
  | ackNotice (source : Byte) (generation : Half)
  | lease (group kind : Byte) (termMs : Word)
  | withdraw (target : Half)
  | renew (group kind : Byte) (termMs : Word)
  | release (group : Byte)
  | groupStatus (group : Byte)
  | readChannel (channel : Byte)
  | readHub
  | stageChannel (channel mask enabled reference : Byte) (gateLength settle : Half)
      (openLimit shortLimit : Tri)
  | stageReference (reference mask enabled : Byte) (settle cacheAgeMs holdOffMs : Half)
  | stageHub (mask : Byte) (ageStepMs extWaitMs : Half)
  | unstage (selector : Byte)
  | commit (selector : Byte)
  deriving DecidableEq, Repr

/-- R180, first column. -/
def Command.code : Command → Byte
  | .nop => 0x00
  | .hello _ => 0x01
  | .bind _ _ => 0x02
  | .detach => 0x03
  | .portStatus => 0x04
  | .convert _ _ _ => 0x10
  | .cancel _ => 0x11
  | .queueStatus => 0x12
  | .readResult _ => 0x18
  | .fetch => 0x19
  | .schedAdd _ _ _ _ => 0x20
  | .schedDelete _ => 0x21
  | .schedPause _ => 0x22
  | .schedResume _ => 0x23
  | .schedStatus _ => 0x24
  | .watchSet _ _ _ _ _ _ _ => 0x30
  | .watchClear _ => 0x31
  | .readNotices _ => 0x32
  | .ackNotice _ _ => 0x33
  | .lease _ _ _ => 0x40
  | .withdraw _ => 0x41
  | .renew _ _ _ => 0x42
  | .release _ => 0x43
  | .groupStatus _ => 0x44
  | .readChannel _ => 0x50
  | .readHub => 0x51
  | .stageChannel _ _ _ _ _ _ _ _ => 0x52
  | .stageReference _ _ _ _ _ _ => 0x53
  | .stageHub _ _ _ => 0x54
  | .unstage _ => 0x55
  | .commit _ => 0x56

/-- R180, fourth column: the parameters in their order (R187 for the three forms). -/
def Command.params : Command → List Byte
  | .nop => []
  | .hello client => be32 client
  | .bind attention silenceMs => attention :: be16 silenceMs
  | .detach => []
  | .portStatus => []
  | .convert channel gate priority => [channel, gate, priority]
  | .cancel target => be16 target
  | .queueStatus => []
  | .readResult channel => [channel]
  | .fetch => []
  | .schedAdd channel gate priority periodMs => [channel, gate, priority] ++ be32 periodMs
  | .schedDelete schedule => [schedule]
  | .schedPause schedule => [schedule]
  | .schedResume schedule => [schedule]
  | .schedStatus schedule => [schedule]
  | .watchSet slot channel low high hyst notify priority =>
    [slot, channel] ++ be32 low ++ be32 high ++ be32 hyst ++ [notify, priority]
  | .watchClear slot => [slot]
  | .readNotices start => [start]
  | .ackNotice source generation => source :: be16 generation
  | .lease group kind termMs => [group, kind] ++ be32 termMs
  | .withdraw target => be16 target
  | .renew group kind termMs => [group, kind] ++ be32 termMs
  | .release group => [group]
  | .groupStatus group => [group]
  | .readChannel channel => [channel]
  | .readHub => []
  | .stageChannel channel mask enabled reference gateLength settle openLimit shortLimit =>
    [channel, mask, enabled, reference] ++ be16 gateLength ++ be16 settle ++ be24 openLimit ++
      be24 shortLimit
  | .stageReference reference mask enabled settle cacheAgeMs holdOffMs =>
    [reference, mask, enabled] ++ be16 settle ++ be16 cacheAgeMs ++ be16 holdOffMs
  | .stageHub mask ageStepMs extWaitMs => mask :: be16 ageStepMs ++ be16 extWaitMs
  | .unstage selector => [selector]
  | .commit selector => [selector]

/-- R180: LEN is 3 for CMD and TAG, plus the parameter bytes. -/
def Command.len (c : Command) : Nat := c.params.length + 3

/-- R182: bytes 0 to LEN of the request slot. -/
def requestHead (tag : Half) (c : Command) : List Byte :=
  [byteOf c.len, c.code] ++ be16 tag ++ c.params

/-- R163: the request CRC covers bytes 0 to LEN. -/
def requestCrc (tag : Half) (c : Command) : Half := crc16 (requestHead tag c)

/-- R182: a request slot, with any padding after the CRC. -/
def requestSlot (tag : Half) (c : Command) (padding : List Byte) : List Byte :=
  requestHead tag c ++ be16 (requestCrc tag c) ++ padding

/-- R180 read backwards: the command of a code, its parameters taken from the slot from byte 4 on
(R182). `none` for a CMD byte that names no command. -/
def commandOf (code : Byte) (slot : List Byte) : Option Command :=
  match code.toNat with
  | 0x00 => some .nop
  | 0x01 => some (.hello (wordAt slot 4))
  | 0x02 => some (.bind (byteAt slot 4) (halfAt slot 5))
  | 0x03 => some .detach
  | 0x04 => some .portStatus
  | 0x10 => some (.convert (byteAt slot 4) (byteAt slot 5) (byteAt slot 6))
  | 0x11 => some (.cancel (halfAt slot 4))
  | 0x12 => some .queueStatus
  | 0x18 => some (.readResult (byteAt slot 4))
  | 0x19 => some .fetch
  | 0x20 => some (.schedAdd (byteAt slot 4) (byteAt slot 5) (byteAt slot 6) (wordAt slot 7))
  | 0x21 => some (.schedDelete (byteAt slot 4))
  | 0x22 => some (.schedPause (byteAt slot 4))
  | 0x23 => some (.schedResume (byteAt slot 4))
  | 0x24 => some (.schedStatus (byteAt slot 4))
  | 0x30 => some (.watchSet (byteAt slot 4) (byteAt slot 5) (wordAt slot 6) (wordAt slot 10)
      (wordAt slot 14) (byteAt slot 18) (byteAt slot 19))
  | 0x31 => some (.watchClear (byteAt slot 4))
  | 0x32 => some (.readNotices (byteAt slot 4))
  | 0x33 => some (.ackNotice (byteAt slot 4) (halfAt slot 5))
  | 0x40 => some (.lease (byteAt slot 4) (byteAt slot 5) (wordAt slot 6))
  | 0x41 => some (.withdraw (halfAt slot 4))
  | 0x42 => some (.renew (byteAt slot 4) (byteAt slot 5) (wordAt slot 6))
  | 0x43 => some (.release (byteAt slot 4))
  | 0x44 => some (.groupStatus (byteAt slot 4))
  | 0x50 => some (.readChannel (byteAt slot 4))
  | 0x51 => some .readHub
  | 0x52 => some (.stageChannel (byteAt slot 4) (byteAt slot 5) (byteAt slot 6) (byteAt slot 7)
      (halfAt slot 8) (halfAt slot 10) (triAt slot 12) (triAt slot 15))
  | 0x53 => some (.stageReference (byteAt slot 4) (byteAt slot 5) (byteAt slot 6) (halfAt slot 7)
      (halfAt slot 9) (halfAt slot 11))
  | 0x54 => some (.stageHub (byteAt slot 4) (halfAt slot 5) (halfAt slot 7))
  | 0x55 => some (.unstage (byteAt slot 4))
  | 0x56 => some (.commit (byteAt slot 4))
  | _ => none

/-- R161: the request slot is made of the bits sampled on the first 512 rising edges. -/
def receivedSlot (sdi : List Bool) : List Byte := bytesOfBits Config.slotBytes sdi

/-- R162: what the checks at the end of a full transaction find. A good request keeps its tag and CRC,
which repeat detection compares (R172). -/
inductive RequestCheck where
  | bad
  | unknown (tag crc : Half)
  | good (tag crc : Half) (command : Command)
  deriving DecidableEq, Repr

/-- R162, in its order: LEN in 3–60; the CRC of bytes 0 to LEN; a CMD that names no command is good;
otherwise LEN must be the command's. -/
def checkRequest (slot : List Byte) : RequestCheck :=
  let len := (byteAt slot 0).toNat
  let tag := halfAt slot 2
  let crc := halfAt slot (len + 1)
  if len < 3 ∨ 60 < len then .bad
  else if crc16 (slot.take (len + 1)) ≠ crc then .bad
  else
    match commandOf (byteAt slot 1) slot with
    | none => .unknown tag crc
    | some c => if len = c.len then .good tag crc c else .bad

end Sys2Proof.Machine
end

