-- ==== Sys2Proof/Machine/Queue.lean ====
section
/-!
DEFINITION. The request queue (chapter 3): effective priority, the exclusive-lease hold, the arbiter's
choice, joining and creating entries, removing waiters, and delivering outcomes.
-/
namespace Sys2Proof.Machine

/-! ## Effective priority (R56) -/

/-- The first term of R56. -/
def highestPriority (waiters : List Waiter) : Nat :=
  waiters.foldr (fun w m => max w.priority.val m) 0

/-- R56: the waiting time in µs at hub time `now`; 2,147,483,647 once the aging limit has expired. -/
def Entry.waitingTime (e : Entry) (now : Time) : Nat :=
  if e.agingDeadline.isNone then Config.agingLimit.toNat else (now - e.created).toNat

/-- The second term of R56: whole AGE_STEP periods; AGE_STEP 0 turns aging off. -/
def Entry.agingLevels (e : Entry) (ageStepMs : Half) (now : Time) : Nat :=
  if ageStepMs = 0 then 0 else e.waitingTime now / (ageStepMs.toNat * 1000)

/-- R56. -/
def Entry.effectivePriority (e : Entry) (ageStepMs : Half) (now : Time) : Nat :=
  min 3 (highestPriority e.waiters + e.agingLevels ageStepMs now)

/-- R57: computed from the committed AGE_STEP at the present hub time. -/
def State.effectivePriority (s : State) (e : Entry) : Nat :=
  e.effectivePriority s.config.ageStepMs s.hubTime

/-! ## The exclusive-lease hold (R59) -/

/-- R59: a waiter belongs to the port it is owed to; a SCHEDULE waiter is owed to the schedule's owner. -/
def Entry.hasWaiterOf (e : Entry) (p : PortId) : Bool := e.waiters.any fun w => decide (w.port = p)

/-- R59: the lease of the entry's group holds it back. -/
def Lease.holdsBack (l : Lease) (e : Entry) : Bool :=
  match l with
  | .held p .exclusive _ => !e.hasWaiterOf p
  | .held _ .configure _ => false
  | .free => false

def Entry.isPending (e : Entry) : Bool := decide (e.state = .pending)
def Entry.isInFlight (e : Entry) : Bool := decide (e.state = .inFlight)

/-- PENDING and held back (R69, R83). -/
def State.heldBack (s : State) (e : Entry) : Bool :=
  e.isPending && (s.group (groupOf e.channel)).lease.holdsBack e

/-- R59. -/
def State.dispatchable (s : State) (e : Entry) : Bool :=
  e.isPending && !(s.group (groupOf e.channel)).lease.holdsBack e

/-! ## The arbiter's choice (R60) -/

/-- Of a list in creation order, the entry with the highest priority, the earliest among equals. -/
def bestOf (priority : Entry → Nat) : List Entry → Option Entry
  | [] => none
  | e :: rest =>
    match bestOf priority rest with
    | none => some e
    | some b => if priority e < priority b then some b else some e

/-- R60. -/
def State.chosenEntry (s : State) : Option Entry :=
  bestOf s.effectivePriority (s.entries.filter s.dispatchable)

/-- R69: entries in dispatch order: by falling priority, in creation order among equals. -/
def byPriority (priority : Entry → Nat) (entries : List Entry) : List Entry :=
  [3, 2, 1, 0].flatMap fun n => entries.filter fun e => decide (priority e = n)

/-- R69: the IN_FLIGHT entry, then the dispatchable entries, then the held ones. -/
def State.dispatchOrder (s : State) : List Entry :=
  s.entries.filter Entry.isInFlight ++
    byPriority s.effectivePriority (s.entries.filter s.dispatchable) ++
    byPriority s.effectivePriority (s.entries.filter s.heldBack)

/-! ## Joining and creating (R52, R53, R55) -/

def Entry.hasKey (c : ChannelId) (gate : GateSource) (e : Entry) : Bool :=
  decide (e.channel = c) && decide (e.gate = gate)

/-- The PENDING entry with a key, if there is one (at most one, R47). -/
def State.pendingWithKey (s : State) (c : ChannelId) (gate : GateSource) : Option Entry :=
  s.entries.find? fun e => e.isPending && e.hasKey c gate

/-- R52: the waiter is appended to the waiter list of the PENDING entry with the key. -/
def joinEntry (c : ChannelId) (gate : GateSource) (w : Waiter) (entries : List Entry) : List Entry :=
  entries.map fun e =>
    if e.isPending && e.hasKey c gate then { e with waiters := e.waiters ++ [w] } else e

/-- R53, R48, R56: a new PENDING entry, last in the creation order. -/
def State.newEntry (s : State) (c : ChannelId) (gate : GateSource) (w : Waiter) : Entry :=
  { channel := c, gate := gate, state := .pending, arrival := s.queue.arrivals, created := s.hubTime,
    agingDeadline := some (s.hubTime + Config.agingLimit), waiters := [w] }

/-- R52, R53: a request joins the PENDING entry with its key, or creates one. -/
def State.enqueue (s : State) (c : ChannelId) (gate : GateSource) (w : Waiter) : State :=
  match s.pendingWithKey c gate with
  | some _ => s.setEntries (joinEntry c gate w s.entries)
  | none =>
    s.setQueue { entries := s.entries ++ [s.newEntry c gate w], arrivals := s.queue.arrivals + 1 }

/-- R50 check 7, R55: a new entry would be needed and the queue holds 24 entries. -/
def State.queueFullFor (s : State) (c : ChannelId) (gate : GateSource) : Bool :=
  (s.pendingWithKey c gate).isNone && decide (Config.queueCapacity ≤ s.entries.length)

/-! ## Waiters leaving (R62) -/

/-- R41: selection NONE, context, deadlines and edge counter discarded, IDLE, nothing published. Also the
end of every conversion (R42). A discarded counter reads 0 (log 18). -/
def State.stopEngine (s : State) : State :=
  ((s.setSelection .none).setConversion none).setEdgeCounter 0

def Entry.without (gone : Waiter → Bool) (e : Entry) : Entry :=
  { e with waiters := e.waiters.filter fun w => !gone w }

/-- The IN_FLIGHT entry would be left without waiters. -/
def losesInFlight (gone : Waiter → Bool) (entries : List Entry) : Bool :=
  entries.any fun e => e.isInFlight && (e.without gone).waiters.isEmpty

/-- R62: the waiters are removed with no outcome owed; entries left empty are removed; the engine aborts
when the IN_FLIGHT entry is one of them. The arbiter is run by the caller, where R62 and R154 place it. -/
def State.removeWaiters (s : State) (gone : Waiter → Bool) : State :=
  let kept := (s.entries.map (Entry.without gone)).filter fun e => !e.waiters.isEmpty
  if losesInFlight gone s.entries then (s.setEntries kept).stopEngine else s.setEntries kept

/-! ## Outcomes (R65, R66, R67) -/

/-- One completion record for one waiter, and the schedule unit told of it (R65, R78). -/
def State.deliverTo (e : Entry) (ending : RequestEnd) (s : State) (w : Waiter) : State :=
  (s.place w.port (.request w.origin e.channel e.gate ending s.hubTime)).countRun w.origin

/-- R65: the entry's waiter list is walked in order of joining. -/
def State.deliver (s : State) (e : Entry) (ending : RequestEnd) : State :=
  e.waiters.foldl (State.deliverTo e ending) s

def State.removeEntry (s : State) (e : Entry) : State := s.setEntries (s.entries.erase e)

end Sys2Proof.Machine
end

