-- ==== Sys2Proof/Machine/Watching.lean ====
section
/-!
DEFINITION. Publication (R86) and the evaluation event that follows it (R105 to R107, R111).
-/
namespace Sys2Proof.Machine

/-- R86: the channel's record is replaced whole and its sequence number rises by one. -/
def State.publish (s : State) (c : ChannelId) (o : Outcome) : State :=
  s.setResult c { seq := (s.result c).seq + 1, outcome := some o }

/-- R106, the table, for a result of status OK with ratio `q`. -/
def Watch.zoneOf (w : Watch) (q : Word) : Zone :=
  let low := w.low.toNat
  let high := w.high.toNat
  let y := w.hyst.toNat
  let r := q.toNat
  match w.zone with
  | .unknown => if r < low then .below else if high < r then .above else .inside
  | .fault => if r < low then .below else if high < r then .above else .inside
  | .inside => if r < low then .below else if high < r then .above else .inside
  | .below => if high < r then .above else if low + y ≤ r then .inside else .below
  | .above => if r < low then .below else if r ≤ high - y then .inside else .above

/-- R105: the evaluation uses the status and, when the status is OK, the ratio Q. `none` is judged
FAULT (R106). -/
def Outcome.judged (o : Outcome) : Option Word :=
  match o.status with
  | .ok => o.ratio
  | .short => none
  | .open_ => none
  | .overrange => none
  | .refFault => none
  | .gateTimeout => none

/-- R106. -/
def Watch.nextZone (w : Watch) (ratio : Option Word) : Zone :=
  match ratio with
  | some q => w.zoneOf q
  | none => .fault

/-- The zone as a notice reports it, when it is in the notify set (R107). -/
def NotifySet.notified (n : NotifySet) : Zone → Option NotifiedZone
  | .unknown => none
  | .below => if n.below then some .below else none
  | .inside => if n.inside then some .inside else none
  | .above => if n.above then some .above else none
  | .fault => if n.fault then some .fault else none

/-- R106, R107, R111: one watch of one slot is evaluated; `ratio` is absent for every status but OK. -/
def PortWatch.evaluateSlot (c : ChannelId) (ratio : Option Word) (seq : Word) (now : Time)
    (w : PortWatch) (i : SlotId) : PortWatch :=
  match w.slots.read i with
  | none => w
  | some x =>
    if x.channel ≠ c then w
    else
      let zone := x.nextZone ratio
      if zone = x.zone then w
      else
        let moved := { w with slots := w.slots.write i (some { x with zone := zone }) }
        match x.notify.notified zone with
        | none => moved
        | some z => moved.raise (.watch i z ratio seq) x.priority now

/-- R105: within one port the slots are taken in ascending order. -/
def PortWatch.evaluate (c : ChannelId) (ratio : Option Word) (seq : Word) (now : Time)
    (w : PortWatch) : PortWatch :=
  (everyIndex 8).foldl (PortWatch.evaluateSlot c ratio seq now) w

/-- R105: one evaluation event for channel `c`, in every port; the result record has been replaced. -/
def State.evaluateWatches (s : State) (c : ChannelId) (o : Outcome) : State :=
  s.setWatch (s.watch.map (PortWatch.evaluate c o.judged (s.result c).seq s.hubTime))

end Sys2Proof.Machine
end

