-- ==== Sys2Proof/Machine/Engine.lean ====
section
/-!
DEFINITION. The counting engine (chapter 2): classification and ratio, dispatch and the arbiter, the
phases, reference health, and the hand-off of a finished conversion.
-/
namespace Sys2Proof.Machine

/-! ## What the engine shows (R44) -/

def Phase.inReference : Phase → EngineState
  | .settle _ => .settleRef
  | .arm _ => .armRef
  | .count _ _ _ => .countRef

def Phase.inSensor : Phase → EngineState
  | .settle _ => .settleSens
  | .arm _ => .armSens
  | .count _ _ _ => .countSens

def Conversion.name (c : Conversion) : EngineState :=
  if c.refCount.isSome then c.phase.inSensor else c.phase.inReference

/-- R44: one of seven names. -/
def Engine.name (e : Engine) : EngineState := e.conversion.elim .idle Conversion.name

/-! ## Ratio and classification (R13, R15, R16) -/

/-- R13: Q before it is asked whether it can be carried in 32 bits. -/
def exactRatio (ref sens : Measured) : Nat :=
  ref.count.toNat * sens.time.toNat * 65536 / (sens.count.toNat * ref.time.toNat)

/-- How a count phase ended (R15). -/
inductive PhaseEnd where
  | closed
  | stalled
  | overflowed
  deriving DecidableEq, Repr

/-- R15: the first that applies of SHORT, OPEN, OVERRANGE and OK, with the ratio of an OK outcome. -/
def classify (limits : ChannelSettings) (how : PhaseEnd) (ref sens : Measured) :
    ResultStatus × Option Word :=
  if how = .overflowed ∨ limits.shortLimit.toNat ≤ sens.count.toNat then (.short, none)
  else if how = .stalled ∨ sens.count = 0 ∨ sens.count.toNat < limits.openLimit.toNat then
    (.open_, none)
  else if 4294967296 ≤ exactRatio ref sens then (.overrange, none)
  else (.ok, some (BitVec.ofNat 32 (exactRatio ref sens)))

/-- R16. -/
def referenceGood (how : PhaseEnd) (count : Tri) : Bool := decide (how = .closed) && decide (count ≠ 0)

/-! ## Hand-off (R42) -/

/-- R42, R65, R86, R105: publication, evaluation, fan-out, removal of the entry. -/
def State.completeEntry (s : State) (e : Entry) (o : Outcome) : State :=
  let published := (s.publish e.channel o).evaluateWatches e.channel o
  (published.deliver e (.published (published.result e.channel).seq o)).removeEntry e

def State.inFlightEntry (s : State) : Option Entry := s.entries.find? Entry.isInFlight

/-- R18: an outcome with what every outcome of the conversion carries. -/
def Conversion.outcome (c : Conversion) (now : Time) (status : ResultStatus) (ratio : Option Word)
    (ref sens : Option Measured) : Outcome :=
  { status := status, ratio := ratio, ref := ref, sens := sens, reference := c.reference,
    fromCache := c.fromCache && ref.isSome, gate := c.gate, revision := c.revision,
    completedAt := now }

/-! ## Dispatch (R24 to R26) -/

/-- R26: the cached count, when the test passes. -/
def usableCache (h : RefHealth) (record : RefRecord) (gateLength : Half) (now : Time) :
    Option Measured :=
  match h.state, h.cache with
  | .valid, some k =>
    if k.gateLength = gateLength ∧ record.cacheAgeMs ≠ 0 ∧
        (now - k.taken).toNat ≤ record.cacheAgeMs.toNat * 1000 then
      some { count := k.count, time := k.gateLength.setWidth 32 }
    else none
  | _, _ => none

/-- R24: the cached count a dispatch of entry `e` takes; an EXTERNAL conversion takes none. -/
def State.cachedCountFor (s : State) (e : Entry) : Option Measured :=
  match e.gate with
  | .external => none
  | .timebase =>
    let settings := (s.channel e.channel).settings
    usableCache (s.health settings.reference) (s.refRecord settings.reference) settings.gateLength
      s.hubTime

/-- R24, R27, R61: the entry becomes IN_FLIGHT and the engine enters SETTLE_SENS with a cached count, or
SETTLE_REF without one. -/
def State.startConversion (s : State) (e : Entry) : State :=
  let record := s.channel e.channel
  let reference := record.settings.reference
  let cached := s.cachedCountFor e
  let settle := if cached.isSome then record.settings.settle else (s.refRecord reference).settle
  let selection := if cached.isSome then Selection.sensor e.channel else .reference reference
  ((s.setEntries (s.entries.replace e { e with state := .inFlight })).setSelection selection).setConversion
    (some { channel := e.channel, gate := e.gate, reference := reference, revision := record.revision,
            fromCache := cached.isSome, refCount := cached,
            phase := .settle (s.hubTime + settle.setWidth 32) })

/-- R25: the outcome of a dispatch that finds the reference FAULTED. -/
def State.faultedOutcome (s : State) (e : Entry) : Outcome :=
  let record := s.channel e.channel
  { status := .refFault, ratio := none, ref := none, sens := none,
    reference := record.settings.reference, fromCache := false, gate := e.gate,
    revision := record.revision, completedAt := s.hubTime }

/-- R24: the state of the entry's reference at dispatch is FAULTED. -/
def State.faultedFor (s : State) (e : Entry) : Bool :=
  decide ((s.health (s.channel e.channel).settings.reference).state = .faulted)

/-- R58, R25: the arbiter, at most `n` dispatches; each but the last completes its entry at once. -/
def arbiterRuns : Nat → State → State
  | 0, s => s
  | n + 1, s =>
    if s.engine.conversion.isSome then s
    else
      match s.chosenEntry with
      | none => s
      | some e =>
        if s.faultedFor e then arbiterRuns n (s.completeEntry e (s.faultedOutcome e))
        else s.startConversion e

/-- R58: the arbiter runs while the engine is IDLE and an entry is dispatchable. Each dispatch that
completes at once removes an entry, so the number of entries bounds the runs. -/
def State.runArbiter (s : State) : State := arbiterRuns s.entries.length s

/-- R42: the conversion in flight ends with an outcome; then the arbiter runs. -/
def State.finish (s : State) (c : Conversion) (o : Outcome) : State :=
  let stopped := s.stopEngine
  match stopped.inFlightEntry with
  | some e => (stopped.completeEntry e o).runArbiter
  | none => ((stopped.publish c.channel o).evaluateWatches c.channel o).runArbiter

/-! ## Phases (R27 to R36) -/

/-- R27: into SETTLE_SENS, with N_ref and T_ref. -/
def State.enterSettleSens (s : State) (c : Conversion) (ref : Measured) : State :=
  (s.setSelection (.sensor c.channel)).setConversion
    (some { c with
      refCount := some ref
      phase := .settle (s.hubTime + (s.channel c.channel).settings.settle.setWidth 32) })

/-- R28, R34: the gate opens. The edge counter is cleared; `bound` is the deadline of the count phase. -/
def State.openGate (s : State) (c : Conversion) (bound : Time) : State :=
  (s.setEdgeCounter 0).setConversion
    (some { c with phase := .count s.hubTime (s.hubTime + Config.stallLimit) bound })

/-- R27, R28, R33: the end of a settle phase opens a TIMEBASE gate or begins an arm phase. -/
def State.endSettle (s : State) (c : Conversion) : State :=
  match c.gate with
  | .timebase => s.openGate c (s.hubTime + (s.channel c.channel).settings.gateLength.setWidth 32)
  | .external => s.setConversion (some { c with phase := .arm (s.hubTime + msToUs s.config.extWaitMs) })

/-- R31, R38: a good TIMEBASE reference count enters the cache, makes the reference VALID and arms the
cache expiry when the age limit is not 0. -/
def State.fillCache (s : State) (r : RefId) (count : Tri) (gateLength : Half) : State :=
  let limit := (s.refRecord r).cacheAgeMs
  s.setHealth r
    { s.health r with
      state := .valid
      cache := some { count := count, gateLength := gateLength, taken := s.hubTime }
      cacheExpiry := if limit = 0 then none else some (s.hubTime + msToUs limit + 1) }

/-- R39: a fault is recorded on the reference. -/
def State.recordFault (s : State) (r : RefId) : State :=
  s.setHealth r
    { state := .faulted, cache := none, cacheExpiry := none,
      holdOff := some (s.hubTime + msToUs (s.refRecord r).holdOffMs) }

/-- R31, R36: a reference count phase has ended. -/
def State.judgeReference (s : State) (c : Conversion) (how : PhaseEnd) (m : Measured) : State :=
  if referenceGood how m.count then
    match c.gate with
    | .timebase =>
      (s.fillCache c.reference m.count (s.channel c.channel).settings.gateLength).enterSettleSens c m
    | .external => s.enterSettleSens c m
  else
    (s.recordFault c.reference).finish c (c.outcome s.hubTime .refFault none (some m) none)

/-- R32: a sensor count phase has ended. -/
def State.judgeSensor (s : State) (c : Conversion) (how : PhaseEnd) (ref sens : Measured) : State :=
  let verdict := classify (s.channel c.channel).settings how ref sens
  s.finish c (c.outcome s.hubTime verdict.1 verdict.2 (some ref) (some sens))

/-- The end of a count phase, under either gate source. -/
def State.endCount (s : State) (c : Conversion) (how : PhaseEnd) (m : Measured) : State :=
  match c.refCount with
  | none => s.judgeReference c how m
  | some ref => s.judgeSensor c how ref m

/-- R35: the pair deadline has expired. N_ref and T_ref are carried in the sensor pair only. -/
def State.gateTimeout (s : State) (c : Conversion) : State :=
  s.finish c (c.outcome s.hubTime .gateTimeout none c.refCount none)

/-- What an open gate has counted: the edge counter, and the time since the gate opened (R29, R30, R34). -/
def State.counted (s : State) (opened : Time) : Measured :=
  { count := s.engine.edgeCounter, time := s.hubTime - opened }

/-- R28, R30, R34: an oscillator edge. Outside an open gate it is not counted (R2, R27, R33). -/
def State.oscillatorEdge (s : State) : State :=
  match s.engine.conversion with
  | some c =>
    match c.phase with
    | .count opened _ bound =>
      if s.engine.edgeCounter = BitVec.allOnes 24 then
        s.endCount c .overflowed (s.counted opened)
      else
        (s.setEdgeCounter (s.engine.edgeCounter + 1)).setConversion
          (some { c with phase := .count opened (s.hubTime + Config.stallLimit) bound })
    | .settle _ => s
    | .arm _ => s
  | none => s

/-- R33, R34: a rising edge on GATE opens the gate in an arm phase, and closes an EXTERNAL gate 50 µs or
more after it opened. -/
def State.gateEdge (s : State) : State :=
  match s.engine.conversion with
  | some c =>
    match c.phase with
    | .arm pair => s.openGate c pair
    | .count opened _ _ =>
      if c.gate = .external ∧ Config.minExternalGate ≤ (s.hubTime - opened).toNat then
        s.endCount c .closed (s.counted opened)
      else s
    | .settle _ => s
  | none => s

/-- R27: the phase deadline of a settle phase, when it is reached. -/
def State.settleExpiry (s : State) : State :=
  match s.engine.conversion with
  | some c =>
    match c.phase with
    | .settle deadline => if reached s.hubTime deadline then s.endSettle c else s
    | .arm _ => s
    | .count _ _ _ => s
  | none => s

/-- R28: the phase deadline of a TIMEBASE gate, when it is reached. The gate time is the gate length. -/
def State.gateExpiry (s : State) : State :=
  match s.engine.conversion with
  | some c =>
    match c.phase with
    | .count _ _ bound =>
      if c.gate = .timebase ∧ reached s.hubTime bound = true then
        s.endCount c .closed
          { count := s.engine.edgeCounter, time := (s.channel c.channel).settings.gateLength.setWidth 32 }
      else s
    | .settle _ => s
    | .arm _ => s
  | none => s

/-- R29: the stall deadline, when it is reached. -/
def State.stallExpiry (s : State) : State :=
  match s.engine.conversion with
  | some c =>
    match c.phase with
    | .count opened stallAt _ =>
      if reached s.hubTime stallAt then
        s.endCount c .stalled (s.counted opened)
      else s
    | .settle _ => s
    | .arm _ => s
  | none => s

/-- R35: the pair deadline of an arm phase or an EXTERNAL count phase, when it is reached. -/
def State.pairExpiry (s : State) : State :=
  match s.engine.conversion with
  | some c =>
    match c.phase with
    | .arm pair => if reached s.hubTime pair then s.gateTimeout c else s
    | .count _ _ bound =>
      if c.gate = .external ∧ reached s.hubTime bound = true then s.gateTimeout c else s
    | .settle _ => s
  | none => s

end Sys2Proof.Machine
end

