-- ==== Sys2Proof/Machine/Leasing.lean ====
section
/-!
DEFINITION. The lease unit (chapter 7): discarding staging, passing a lease on, and the removal of
waiting requests.
-/
namespace Sys2Proof.Machine

/-- R127, R128, R133, R136: the group's staging buffer is discarded, and the hub staging buffer too when
its holder `p` holds all three groups. -/
def State.discardStaging (s : State) (p : PortId) (g : GroupId) : State :=
  let cleared := Table.tabulate 12 fun c =>
    if groupOf c = g then none else s.leases.staging.read c
  if s.holdsAll p then (s.setStaging cleared).setHubStaging HubStaging.empty
  else s.setStaging cleared

/-- R129: the lease passes to the head of the wait list, with a LEASE_GRANTED record and, when a request
remains, RELEASE_REQUESTED for the new holder (R130); or the group becomes FREE. -/
def State.passOn (s : State) (g : GroupId) : State :=
  match (s.group g).waiting with
  | [] => s.setGroup g { lease := .free, waiting := [] }
  | q :: rest =>
    let expiry := s.hubTime + msToUs q.termMs
    let granted :=
      (s.setGroup g { lease := .held q.port q.kind expiry, waiting := rest }).place q.port
        (.lease q.tag g q.kind expiry s.hubTime)
    if rest.isEmpty then granted else granted.raiseGroup q.port g true false

/-- R127, R133: staging discarded, the expiry cancelled with the lease record, the lease passed on. -/
def State.releaseGroup (s : State) (p : PortId) (g : GroupId) : State :=
  (s.discardStaging p g).passOn g

/-- R128: at the expiry of a HELD group, when the deadline is reached: staging discarded, REVOKED for the
holder, then the passing on; a hold it releases lets the arbiter run (R131). -/
def State.leaseExpires (s : State) (g : GroupId) : State :=
  match (s.group g).lease with
  | .free => s
  | .held p _ expiry =>
    if reached s.hubTime expiry then
      (((s.discardStaging p g).raiseGroup p g false true).passOn g).runArbiter
    else s

/-- R133: every request of `p` is removed from every wait list. -/
def State.dropLeaseRequests (s : State) (p : PortId) : State :=
  (everyIndex 3).foldl (fun t g =>
    t.setGroup g { t.group g with waiting := (t.group g).waiting.filter fun q => decide (q.port ≠ p) }) s

/-- R133: group `g` is released if `p` holds it. -/
def State.releaseIfHeld (p : PortId) (s : State) (g : GroupId) : State :=
  if s.holds p g then s.releaseGroup p g else s

/-- R133: the two actions of a teardown on the lease unit. -/
def State.tearDownLeases (s : State) (p : PortId) : State :=
  (everyIndex 3).foldl (State.releaseIfHeld p) (s.dropLeaseRequests p)

/-- R134, R124: a port's place in a wait list, 1 or 2. -/
def placeIn (p : PortId) (waiting : List LeaseRequest) : Option Nat :=
  (waiting.findIdx? fun q => decide (q.port = p)).map (· + 1)

end Sys2Proof.Machine
end

