-- ==== Sys2Proof/Machine/Ports.lean ====
section
/-!
DEFINITION. The port controllers: teardown (R154) and the exchange of frames (sections 9.1 to 9.4).
-/
namespace Sys2Proof.Machine

/-! ## Teardown (R154) -/

/-- The waiters owed to `p`: its DIRECT waiters and the waiters of its schedules (R68). -/
def Waiter.isOwedTo (p : PortId) (w : Waiter) : Bool := decide (w.port = p)

/-- R82: every schedule `p` owns is deleted. -/
def State.dropSchedules (s : State) (p : PortId) : State :=
  s.setSchedules (s.schedules.map fun c => c.filter fun x => decide (x.owner ≠ p))

/-- R154: what every other block removes, taken as one event; the arbiter runs once all is removed. The
port controller's own part (state and detach cause) is set by the rule that ends the attachment, before
the arbiter's run, in `next`. -/
def State.tearDown (s : State) (p : PortId) (next : PortController → PortController) : State :=
  let queue := (s.removeWaiters (Waiter.isOwedTo p)).dropSchedules p
  let leases := queue.tearDownLeases p
  let emptied := (leases.setPortWatch p PortWatch.reset).setCq p []
  (emptied.setPort p (next (emptied.port p))).runArbiter

/-- R153: what a teardown discards. -/
structure TeardownReport where
  waiters : Nat
  aborted : Bool
  schedules : Nat
  watches : Nat
  notices : Nat
  groups : Nat
  leaseRequests : Nat
  records : Nat
  deriving DecidableEq, Repr

/-- Counted in the state the teardown finds (R153). -/
def State.teardownReport (s : State) (p : PortId) : TeardownReport :=
  { waiters := waitersOf p s.entries
    aborted := losesInFlight (Waiter.isOwedTo p) s.entries
    schedules := s.schedules.cells.countP fun c => c.any fun x => decide (x.owner = p)
    watches := (s.portWatch p).slots.cells.countP Option.isSome
    notices := (s.portWatch p).notices.length
    groups := (everyIndex 3).countP fun g => s.holds p g
    leaseRequests := s.leaseRequestsOf p
    records := (s.cq p).length }

/-! ## Held response (section 9.2) -/

def Held.state : Held → HeldState
  | .none => .none
  | .preparing _ _ => .preparing
  | .ready _ => .ready
  | .interrupted _ => .interrupted

/-- R165: the slot chosen when SELn falls. -/
def State.chosenSlot (s : State) (p : PortId) : Slot :=
  match (s.port p).held with
  | .none => s.composed p .idle
  | .preparing _ _ => s.composed p .notReady
  | .ready slot => slot
  | .interrupted slot => slot

/-- R161, R165: a fall of SELn begins a transaction while the port is not OFFLINE and the part is not in
hub reset. If the end of an earlier one waits for HCLK (R190), it begins behind that one. -/
def State.beginTransaction (s : State) (p : PortId) : State :=
  let c := s.port p
  if s.inReset ∨ c.state = .offline then s
  else
    s.setPort p
      { c with transactions := c.transactions ++ [{ began := c.held.state, slot := s.chosenSlot p }] }

/-- R166: a response is held in state PREPARING, ready 5 µs from now. -/
def State.hold (s : State) (p : PortId) (r : Response) : State :=
  s.setPort p { s.port p with held := .preparing r (s.hubTime + Config.readinessDelay) }

/-- R166: at the readiness deadline the flags are sampled, the CRC is computed, and the response is
READY. -/
def State.readyExpires (s : State) (p : PortId) : State :=
  match (s.port p).held with
  | .preparing r readyAt =>
    if reached s.hubTime readyAt then
      s.setPort p { s.port p with held := .ready (sealSlot r (s.linkFlags p r.isRepeat)) }
    else s
  | .none => s
  | .ready _ => s
  | .interrupted _ => s

/-- R174. -/
def State.countLinkError (s : State) (p : PortId) : State :=
  s.setPort p { s.port p with linkErrors := saturatingSucc (s.port p).linkErrors }

/-- R151: on an ATTACHED port with a nonzero limit, the deadline is set afresh. -/
def restartedSilence (now : Time) : PortState → PortState
  | .attached a =>
    if a.silenceMs = 0 then .attached a
    else .attached { a with silenceDeadline := some (now + msToUs a.silenceMs) }
  | .offline => .offline
  | .linked => .linked
  | .binding client window => .binding client window

/-- R151: a good frame has ended on the port. -/
def State.goodFrame (s : State) (p : PortId) : State :=
  s.setPort p { s.port p with state := restartedSilence s.hubTime (s.port p).state }

/-! ## The end of a transaction (R161, R167, R168) -/

/-- R190: ends are taken one by one, the oldest first (log 23). -/
def State.closeTransaction (s : State) (p : PortId) : State :=
  s.setPort p { s.port p with transactions := (s.port p).transactions.tail }

/-- Held after a short transaction (R168): a READY response that was being shifted is INTERRUPTED. -/
def heldAfterShort (began : HeldState) (h : Held) : Held :=
  match began, h with
  | .ready, .ready slot => .interrupted slot
  | _, _ => h

/-- R168: a transaction that ends with fewer than 512 rising edges. A rise of SELn with no transaction
in progress is ignored (R161). -/
def State.endShort (s : State) (p : PortId) : State :=
  match (s.port p).transaction with
  | none => s
  | some t =>
    let counted := (s.closeTransaction p).countLinkError p
    counted.setPort p { counted.port p with held := heldAfterShort t.began (counted.port p).held }

/-- R167, R169: the slot shifted has been delivered whole: a held response becomes NONE, and a set
backlog marker is cleared if the slot carried BACKLOG. -/
def State.delivered (s : State) (p : PortId) (t : Transaction) : State :=
  let c := s.port p
  s.setPort p { c with held := .none, backlog := c.backlog && !t.slot.flags.backlog }

/-- R171: what the repeat record becomes when a request is executed. -/
def repeatAfter (tag crc : Half) (r : Response) : Option RepeatRecord :=
  if tag = 0 then none else some { tag := tag, crc := crc, response := r }

/-- R172: the stored response, when tag and CRC both equal those in the record. -/
def PortController.repeated (c : PortController) (tag crc : Half) : Option Response :=
  match c.repeatRecord with
  | some k => if tag ≠ 0 ∧ k.tag = tag ∧ k.crc = crc then some k.response else none
  | none => none

/-- What a command leaves: the state, and the status and payload of its response. -/
structure Reply where
  state : State
  status : Status
  payload : List Byte
  deriving DecidableEq, Repr

/-- A refusal with no payload, which changes no state outside the port controller (R164, R176). -/
def refuse (s : State) (status : Status) : Reply := { state := s, status := status, payload := [] }

/-- R167, R171: a request is executed; its response is held and replaces the repeat record. -/
def State.execute (s : State) (p : PortId) (tag crc : Half) (command : State → Reply) : State :=
  let reply := command s
  let response : Response :=
    { status := reply.status, tagEcho := tag, payload := reply.payload, isRepeat := false }
  let t := reply.state.hold p response
  t.setPort p { t.port p with repeatRecord := repeatAfter tag crc response }

/-- A good request under the NONE or READY case of R167: answered from the repeat record with REPEAT set
(R172), or executed. -/
def State.handleGood (s : State) (p : PortId) (tag crc : Half) (command : State → Reply) : State :=
  match (s.port p).repeated tag crc with
  | some r => s.hold p { r with isRepeat := true }
  | none => s.execute p tag crc command

/-- R170: a bad request under the NONE or READY case: counted, and answered LINK_ERROR with tag echo 0
and the counter after the fault. -/
def State.answerLinkError (s : State) (p : PortId) : State :=
  let counted := s.countLinkError p
  counted.hold p { status := .linkError, tagEcho := 0, payload := be16 (counted.port p).linkErrors,
                   isRepeat := false }

/-- The end of a full transaction with a good request (R161, R167): delivery is finished, the silence
deadline is set afresh (R151), and the request is handled by the state the held response had when the
transaction began. -/
def State.endGood (s : State) (p : PortId) (tag crc : Half) (command : State → Reply) : State :=
  match (s.port p).transaction with
  | none => s
  | some t =>
    let closed := (s.closeTransaction p).goodFrame p
    match t.began with
    | .none => (closed.delivered p t).handleGood p tag crc command
    | .ready => (closed.delivered p t).handleGood p tag crc command
    | .interrupted => closed.setPort p { closed.port p with held := .none, backlog := true }
    | .preparing => closed

/-- The end of a full transaction with a bad request (R161, R167, R170, R174). -/
def State.endBad (s : State) (p : PortId) : State :=
  match (s.port p).transaction with
  | none => s
  | some t =>
    let closed := s.closeTransaction p
    match t.began with
    | .none => (closed.delivered p t).answerLinkError p
    | .ready => (closed.delivered p t).answerLinkError p
    | .interrupted =>
      let counted := closed.countLinkError p
      counted.setPort p { counted.port p with held := .none }
    | .preparing => closed.countLinkError p

/-- R150, R177: a command of an ATTACHED port; on any other the refusal comes before every check. -/
def State.attachedOnly (s : State) (p : PortId) (command : Reply) : Reply :=
  if s.isAttached p then command else refuse s .notAttached

end Sys2Proof.Machine
end

