-- ==== Sys2Proof/Machine/Attach.lean ====
section
/-!
DEFINITION. NOP, HELLO, BIND, DETACH and PORT_STATUS (chapter 8).
-/
namespace Sys2Proof.Machine

/-- R150: answered DONE with no payload in every state but OFFLINE. -/
def nopReply (s : State) : Reply := { state := s, status := .done, payload := [] }

def execNop (p : PortId) (tag : Half) (s : State) : Host.Outcome State Fault Refusal :=
  .next (s.endGood p tag (requestCrc tag .nop) nopReply)

/-- R147, R188: part identity, protocol revision, port number, detach cause, bind window remaining. -/
def helloPayload (s : State) (p : PortId) : List Byte :=
  Config.partIdentity ++ [Config.protocolRevision, finCode p, (s.port p).cause.code] ++
    be32 Config.bindWindow

/-- R147: BINDING with the identifier given and a fresh window. -/
def State.startBinding (s : State) (p : PortId) (client : Word) : State :=
  s.setPort p { s.port p with state := .binding client (s.hubTime + Config.bindWindow) }

/-- R147. -/
def helloReply (p : PortId) (client : Word) (s : State) : Reply :=
  match (s.port p).state with
  | .attached _ => refuse s .alreadyAttached
  | .linked => { state := s.startBinding p client, status := .done, payload := helloPayload s p }
  | .binding _ _ => { state := s.startBinding p client, status := .done, payload := helloPayload s p }
  | .offline => refuse s .notAttached

def execHello (p : PortId) (tag : Half) (client : Word) (s : State) :
    Host.Outcome State Fault Refusal :=
  .next (s.endGood p tag (requestCrc tag (.hello client)) (helloReply p client))

/-- R149: the port becomes ATTACHED; the detach cause becomes NONE. -/
def State.attach (s : State) (p : PortId) (client : Word) (attention : Bool) (silenceMs : Half) : State :=
  s.setPort p
    { s.port p with
      state := .attached
        { client := client, attention := attention, silenceMs := silenceMs
          silenceDeadline := if silenceMs = 0 then none else some (s.hubTime + msToUs silenceMs) }
      cause := .none }

/-- R149, R188. -/
def bindReply (p : PortId) (attention : Byte) (silenceMs : Half) (s : State) : Reply :=
  match (s.port p).state with
  | .binding client _ =>
    match yesNo attention, silenceOf silenceMs with
    | some on, some limit =>
      let t := s.attach p client on limit
      { state := t, status := .done
        payload := [finCode p] ++ be32 client ++ [flagByte on] ++ be16 limit ++
          [byteOf (t.freeCredits p)] }
    | _, _ => refuse s .badParam
  | .offline => refuse s .wrongState
  | .linked => refuse s .wrongState
  | .attached _ => refuse s .wrongState

def execBind (p : PortId) (tag : Half) (attention : Byte) (silenceMs : Half) (s : State) :
    Host.Outcome State Fault Refusal :=
  .next (s.endGood p tag (requestCrc tag (.bind attention silenceMs)) (bindReply p attention silenceMs))

/-- R188: the eight bytes of the DETACH report. -/
def TeardownReport.bytes (r : TeardownReport) : List Byte :=
  [byteOf r.waiters, flagByte r.aborted, byteOf r.schedules, byteOf r.watches, byteOf r.notices,
   byteOf r.groups, byteOf r.leaseRequests, byteOf r.records]

/-- R153, R156. -/
def PortController.detached (c : PortController) (cause : DetachCause) : PortController :=
  { c with state := .linked, cause := cause }

/-- R153. -/
def detachReply (p : PortId) (s : State) : Reply :=
  s.attachedOnly p
    { state := s.tearDown p fun c => c.detached .detach, status := .done
      payload := (s.teardownReport p).bytes }

def execDetach (p : PortId) (tag : Half) (s : State) : Host.Outcome State Fault Refusal :=
  .next (s.endGood p tag (requestCrc tag .detach) (detachReply p))

/-- R159: the pending identifier while BINDING, the one in force while ATTACHED; zero otherwise. -/
def PortState.ownClient : PortState → Word
  | .binding client _ => client
  | .attached a => a.client
  | .offline => 0
  | .linked => 0

def PortState.windowRemaining (now : Time) : PortState → Word
  | .binding _ window => window - now
  | .attached _ => 0
  | .offline => 0
  | .linked => 0

def PortState.silenceRemaining (now : Time) : PortState → Word
  | .attached a => a.silenceDeadline.elim 0 fun d => d - now
  | .binding _ _ => 0
  | .offline => 0
  | .linked => 0

/-- R159, R188. -/
def portStatusPayload (p : PortId) (s : State) : List Byte :=
  let c := s.port p
  [finCode p, c.state.code] ++ be32 c.state.ownClient ++ be32 (c.state.windowRemaining s.hubTime) ++
    [flagByte c.state.attention] ++ be16 c.state.silenceMs ++
    be32 (c.state.silenceRemaining s.hubTime) ++
    [if c.state.isAttached then byteOf (s.freeCredits p) else 0, c.cause.code] ++ be16 c.linkErrors ++
    (everyIndex 3).flatMap fun q => (s.port q).state.code :: be32 (s.port q).state.clientInForce

/-- R159. -/
def portStatusReply (p : PortId) (s : State) : Reply :=
  { state := s, status := .done, payload := portStatusPayload p s }

def execPortStatus (p : PortId) (tag : Half) (s : State) : Host.Outcome State Fault Refusal :=
  .next (s.endGood p tag (requestCrc tag .portStatus) (portStatusReply p))

end Sys2Proof.Machine
end

