-- ==== Sys2Proof/Machine/Events.lean ====
section
/-!
DEFINITION. The deadlines' expiries, the edges on the oscillator and on GATE, the resets, and the tick of
the timebase.

An expiry whose deadline does not exist, or is not reached, is no event (R22): the state stays (log 3).
-/
namespace Sys2Proof.Machine

/-! ## Port controllers -/

/-- R166. -/
def execResponseReady (p : PortId) (s : State) : Host.Outcome State Fault Refusal :=
  .next (s.readyExpires p)

/-- R148: BINDING becomes LINKED and the pending identifier is discarded; the detach cause stays. -/
def State.bindWindowExpires (s : State) (p : PortId) : State :=
  match (s.port p).state with
  | .binding _ window =>
    if reached s.hubTime window then s.setPort p { s.port p with state := .linked } else s
  | .offline => s
  | .linked => s
  | .attached _ => s

def execBindWindowExpiry (p : PortId) (s : State) : Host.Outcome State Fault Refusal :=
  .next (s.bindWindowExpires p)

/-- R152: the port is torn down with cause SILENCE and LINKED; held response, backlog marker, repeat
record and link error counter are kept (R175). -/
def State.silenceExpires (s : State) (p : PortId) : State :=
  match (s.port p).state with
  | .attached { silenceDeadline := some deadline, .. } =>
    if reached s.hubTime deadline then s.tearDown p fun c => c.detached .silence else s
  | .attached { silenceDeadline := none, .. } => s
  | .offline => s
  | .linked => s
  | .binding _ _ => s

def execSilenceExpiry (p : PortId) (s : State) : Host.Outcome State Fault Refusal :=
  .next (s.silenceExpires p)

/-! ## Leases, references, entries -/

/-- R128. -/
def execLeaseExpiry (g : GroupId) (s : State) : Host.Outcome State Fault Refusal :=
  .next (s.leaseExpires g)

/-- R39, R37: the reference becomes UNKNOWN. -/
def State.holdOffExpires (s : State) (r : RefId) : State :=
  match (s.health r).holdOff with
  | some deadline =>
    if reached s.hubTime deadline then
      s.setHealth r { s.health r with state := .unknown, holdOff := none }
    else s
  | none => s

def execHoldOffExpiry (r : RefId) (s : State) : Host.Outcome State Fault Refusal :=
  .next (s.holdOffExpires r)

/-- R38: the cache is emptied and the reference stays VALID. -/
def State.cacheExpires (s : State) (r : RefId) : State :=
  match (s.health r).cacheExpiry with
  | some deadline =>
    if reached s.hubTime deadline then
      s.setHealth r { s.health r with cache := none, cacheExpiry := none }
    else s
  | none => s

def execCacheExpiry (r : RefId) (s : State) : Host.Outcome State Fault Refusal :=
  .next (s.cacheExpires r)

/-- R56: from now on the entry's waiting time is taken as the aging limit. -/
def Entry.agingExpired (now : Time) (e : Entry) : Entry :=
  match e.agingDeadline with
  | some deadline => if reached now deadline then { e with agingDeadline := none } else e
  | none => e

def State.agingCapExpires (s : State) (position : Fin 24) : State :=
  s.setEntries (s.entries.modify position.val (Entry.agingExpired s.hubTime))

def execAgingCapExpiry (position : Fin 24) (s : State) : Host.Outcome State Fault Refusal :=
  .next (s.agingCapExpires position)

/-! ## The engine -/

/-- R27, R33. -/
def execSettleEnd (s : State) : Host.Outcome State Fault Refusal := .next s.settleExpiry

/-- R28. -/
def execGateClose (s : State) : Host.Outcome State Fault Refusal := .next s.gateExpiry

/-- R29. -/
def execStall (s : State) : Host.Outcome State Fault Refusal := .next s.stallExpiry

/-- R35. -/
def execPairDeadlineExpiry (s : State) : Host.Outcome State Fault Refusal := .next s.pairExpiry

/-- R28, R30. -/
def execOscillatorEdge (s : State) : Host.Outcome State Fault Refusal := .next s.oscillatorEdge

/-- R33, R34. -/
def execGateRisingEdge (s : State) : Host.Outcome State Fault Refusal := .next s.gateEdge

/-! ## Resets and the tick -/

/-- R160: LINKED where PRSTn is released, OFFLINE where it is asserted. -/
def PortController.hubReset (c : PortController) : PortController :=
  PortController.reset (if c.state = .offline then .offline else .linked)

/-- R189: every block at its reset values, in hub reset or just out of it. -/
def State.resetBlocks (s : State) (inReset : Bool) : State :=
  { State.reset with
    inReset := inReset
    ports := s.ports.map PortController.hubReset
    pending := s.pending }

def execHubReset (s : State) : Host.Outcome State Fault Refusal := .next (s.resetBlocks true)

/-- R189: RESET rises. With RESET already high there is no rise (log 9). -/
def State.releaseHubReset (s : State) : State := if s.inReset then s.resetBlocks false else s

def execHubResetRelease (s : State) : Host.Outcome State Fault Refusal := .next s.releaseHubReset

/-- R146, R175: OFFLINE with cause PORT_RESET; held response, backlog marker and repeat record cleared,
every transaction whose end is not taken abandoned, the link error counter kept. -/
def PortController.portReset (c : PortController) : PortController :=
  { state := .offline, cause := .portReset, held := .none, backlog := false, repeatRecord := none,
    linkErrors := c.linkErrors, transactions := [] }

/-- R146. In hub reset the port only follows its PRSTn, with cause HUB_RESET (R160, R189). -/
def State.assertPortReset (s : State) (p : PortId) : State :=
  if s.inReset then s.setPort p (PortController.reset .offline)
  else
    match (s.port p).state with
    | .attached _ => s.tearDown p PortController.portReset
    | .binding _ _ => s.setPort p (s.port p).portReset
    | .linked => s.setPort p (s.port p).portReset
    | .offline => s

def execPortResetAssert (p : PortId) (s : State) : Host.Outcome State Fault Refusal :=
  .next (s.assertPortReset p)

/-- R146: OFFLINE becomes LINKED; the release changes nothing else. -/
def State.releasePortReset (s : State) (p : PortId) : State :=
  if (s.port p).state = .offline then s.setPort p { s.port p with state := .linked } else s

def execPortResetRelease (p : PortId) (s : State) : Host.Outcome State Fault Refusal :=
  .next (s.releasePortReset p)

/-- R21, R189: one microsecond, wrapping; hub time stays at 0 in hub reset. -/
def State.tick (s : State) : State := if s.inReset then s else s.setHubTime (s.hubTime + 1)

def execHubTimeAdvance (s : State) : Host.Outcome State Fault Refusal := .next s.tick

end Sys2Proof.Machine
end

