-- ==== Sys2Proof/Machine/LeaseCommands.lean ====
section
/-!
DEFINITION. LEASE, WITHDRAW, RENEW, RELEASE and GROUP_STATUS (chapter 7).
-/
namespace Sys2Proof.Machine

/-- R124, FREE: granted at once. -/
def State.grant (s : State) (p : PortId) (g : GroupId) (kind : LeaseKind) (termMs : Word) : State :=
  s.setGroup g { s.group g with lease := .held p kind (s.hubTime + msToUs termMs) }

/-- R124, HELD by another port: the request joins the tail, and RELEASE_REQUESTED is raised for the
holder (R130). -/
def State.queueLease (s : State) (holder : PortId) (g : GroupId) (q : LeaseRequest) : State :=
  (s.setGroup g { s.group g with waiting := (s.group g).waiting ++ [q] }).raiseGroup holder g true false

/-- R124, R188. -/
def leaseReply (p : PortId) (tag : Half) (group kind : Byte) (termMs : Word) (s : State) : Reply :=
  s.attachedOnly p <|
    match numbered 3 group, kindOf kind, termOf termMs with
    | some g, some k, some term =>
      if s.holds p g then refuse s .heldAlready
      else if ((s.group g).waiting.any fun q => decide (q.port = p)) then refuse s .duplicate
      else if s.tagInUse p tag then refuse s .tagInUse
      else
        match (s.group g).lease with
        | .free =>
          { state := s.grant p g k term, status := .granted
            payload := [k.code] ++ be32 (s.hubTime + msToUs term) }
        | .held holder _ _ =>
          if s.freeCredits p = 0 then refuse s .noCredit
          else
            let t := s.queueLease holder g { port := p, tag := tag, kind := k, termMs := term }
            { state := t, status := .queued
              payload := [byteOf ((placeIn p (t.group g).waiting).getD 0), byteOf (t.freeCredits p)] }
    | _, _, _ => refuse s .badParam

def execLease (p : PortId) (tag : Half) (group kind : Byte) (termMs : Word) (s : State) :
    Host.Outcome State Fault Refusal :=
  .next (s.endGood p tag (requestCrc tag (.lease group kind termMs)) (leaseReply p tag group kind termMs))

/-- The group in whose wait list the port's request with the tag stands. -/
def State.groupWaitedFor (s : State) (p : PortId) (tag : Half) : Option GroupId :=
  (everyIndex 3).find? fun g => (s.group g).waiting.any (LeaseRequest.isOf p tag)

/-- R125, R188. -/
def withdrawReply (p : PortId) (target : Half) (s : State) : Reply :=
  s.attachedOnly p <|
    if target = 0 then refuse s .badParam
    else
      match s.groupWaitedFor p target with
      | none => refuse s .notFound
      | some g =>
        let t := s.setGroup g
          { s.group g with waiting := (s.group g).waiting.filter fun q => !LeaseRequest.isOf p target q }
        { state := t, status := .done, payload := [finCode g, byteOf (t.freeCredits p)] }

def execWithdraw (p : PortId) (tag target : Half) (s : State) : Host.Outcome State Fault Refusal :=
  .next (s.endGood p tag (requestCrc tag (.withdraw target)) (withdrawReply p target))

/-- R126, R188. A change of kind can release a hold, and then the arbiter runs (R131). -/
def renewReply (p : PortId) (group kind : Byte) (termMs : Word) (s : State) : Reply :=
  s.attachedOnly p <|
    match numbered 3 group, kindOf kind, termOf termMs with
    | some g, some k, some term =>
      if !s.holds p g then refuse s .notHolder
      else if !(s.group g).waiting.isEmpty then refuse s .contended
      else
        { state := (s.grant p g k term).runArbiter, status := .done
          payload := be32 (s.hubTime + msToUs term) }
    | _, _, _ => refuse s .badParam

def execRenew (p : PortId) (tag : Half) (group kind : Byte) (termMs : Word) (s : State) :
    Host.Outcome State Fault Refusal :=
  .next (s.endGood p tag (requestCrc tag (.renew group kind termMs)) (renewReply p group kind termMs))

/-- R135: the staged channel records in a group's staging buffer. -/
def State.stagedCount (s : State) (g : GroupId) : Nat :=
  (everyIndex 12).countP fun c => decide (groupOf c = g) && (s.leases.staging.read c).isSome

/-- R135: a hub staging buffer with at least one staged item. -/
def HubStaging.nonempty (h : HubStaging) : Bool :=
  h.refs.a.isSome || h.refs.b.isSome || h.ageStepMs.isSome || h.extWaitMs.isSome

/-- R127, R188. -/
def releaseReply (p : PortId) (group : Byte) (s : State) : Reply :=
  s.attachedOnly p <|
    match numbered 3 group with
    | none => refuse s .badParam
    | some g =>
      if !s.holds p g then refuse s .notHolder
      else
        let released := s.releaseGroup p g
        { state := released.runArbiter, status := .done
          payload := [byteOf (s.stagedCount g),
                      flagByte (s.holdsAll p && s.leases.hubStaging.nonempty),
                      portOrAbsent (released.holder g)] }

def execRelease (p : PortId) (tag : Half) (group : Byte) (s : State) :
    Host.Outcome State Fault Refusal :=
  .next (s.endGood p tag (requestCrc tag (.release group)) (releaseReply p group))

/-- R134: holder, its client identifier, kind and remaining term; the hub-lease flag. -/
def State.leaseBytes (s : State) (g : GroupId) : List Byte :=
  match (s.group g).lease with
  | .free => [0, absentPort] ++ be32 0 ++ [0] ++ be32 0
  | .held h kind expiry =>
    [1, finCode h] ++ be32 (s.port h).state.clientInForce ++ [kind.code] ++ be32 (expiry - s.hubTime)

/-- R134, R188. -/
def groupStatusPayload (p : PortId) (s : State) (g : GroupId) : List Byte :=
  s.leaseBytes g ++
    [(if (s.holder g).any s.holdsAll then 2 else 0) ||| (if s.stagedCount g = 0 then 0 else 1),
     byteOf (s.group g).waiting.length, byteOf ((placeIn p (s.group g).waiting).getD 0)]

def groupStatusReply (p : PortId) (group : Byte) (s : State) : Reply :=
  s.attachedOnly p <|
    match numbered 3 group with
    | none => refuse s .badParam
    | some g => { state := s, status := .done, payload := groupStatusPayload p s g }

def execGroupStatus (p : PortId) (tag : Half) (group : Byte) (s : State) :
    Host.Outcome State Fault Refusal :=
  .next (s.endGood p tag (requestCrc tag (.groupStatus group)) (groupStatusReply p group))

end Sys2Proof.Machine
end

