-- ==== Sys2Proof/Machine/Configuring.lean ====
section
/-!
DEFINITION. READ_CHANNEL, READ_HUB, STAGE_CHANNEL, STAGE_REFERENCE, STAGE_HUB and UNSTAGE (section 1.12
and 7.8).
-/
namespace Sys2Proof.Machine

/-! ## Reading (R19, R20) -/

/-- R19, R188. -/
def readChannelPayload (s : State) (c : ChannelId) : List Byte :=
  let r := (s.channel c).settings
  [finCode c, flagByte r.enabled, refCode r.reference] ++ be16 r.gateLength ++ be16 r.settle ++
    be24 r.openLimit ++ be24 r.shortLimit ++ be16 (s.channel c).revision ++
    [(if s.usable c then 2 else 0) ||| (if (s.leases.staging.read c).isSome then 1 else 0)]

def readChannelReply (p : PortId) (channel : Byte) (s : State) : Reply :=
  s.attachedOnly p <|
    match numbered 12 channel with
    | none => refuse s .badParam
    | some c => { state := s, status := .done, payload := readChannelPayload s c }

def execReadChannel (p : PortId) (tag : Half) (channel : Byte) (s : State) :
    Host.Outcome State Fault Refusal :=
  .next (s.endGood p tag (requestCrc tag (.readChannel channel)) (readChannelReply p channel))

/-- R20, R188: one reference, its record and its state. -/
def State.refBytes (s : State) (r : RefId) : List Byte :=
  let k := s.refRecord r
  [flagByte k.enabled] ++ be16 k.settle ++ be16 k.cacheAgeMs ++ be16 k.holdOffMs ++
    [(s.health r).state.code]

/-- R20, R188. -/
def readHubPayload (s : State) : List Byte :=
  s.refBytes .a ++ s.refBytes .b ++ be16 s.config.ageStepMs ++ be16 s.config.extWaitMs ++
    [flagByte s.leases.hubStaging.nonempty]

def readHubReply (p : PortId) (s : State) : Reply :=
  s.attachedOnly p { state := s, status := .done, payload := readHubPayload s }

def execReadHub (p : PortId) (tag : Half) (s : State) : Host.Outcome State Fault Refusal :=
  .next (s.endGood p tag (requestCrc tag .readHub) (readHubReply p))

/-! ## Staging (R137, R138) -/

def StagedChannel.blank : StagedChannel :=
  { enabled := none, reference := none, gateLength := none, settle := none, openLimit := none,
    shortLimit := none }

def StagedRef.blank : StagedRef :=
  { enabled := none, settle := none, cacheAgeMs := none, holdOffMs := none }

/-- R137: each given field replaces any staged value of that field. -/
def StagedChannel.merge (given old : StagedChannel) : StagedChannel :=
  { enabled := given.enabled.or old.enabled
    reference := given.reference.or old.reference
    gateLength := given.gateLength.or old.gateLength
    settle := given.settle.or old.settle
    openLimit := given.openLimit.or old.openLimit
    shortLimit := given.shortLimit.or old.shortLimit }

def StagedRef.merge (given old : StagedRef) : StagedRef :=
  { enabled := given.enabled.or old.enabled
    settle := given.settle.or old.settle
    cacheAgeMs := given.cacheAgeMs.or old.cacheAgeMs
    holdOffMs := given.holdOffMs.or old.holdOffMs }

/-- R137, R187. -/
def stageChannelReply (p : PortId) (channel mask enabled reference : Byte) (gateLength settle : Half)
    (openLimit shortLimit : Tri) (s : State) : Reply :=
  s.attachedOnly p <|
    match numbered 12 channel,
      channelForm mask enabled reference gateLength settle openLimit shortLimit with
    | some c, some given =>
      if !s.holds p (groupOf c) then refuse s .notHolder
      else
        let merged := given.merge ((s.leases.staging.read c).getD StagedChannel.blank)
        { state := s.setStaging (s.leases.staging.write c (some merged)), status := .done
          payload := merged.bytes c }
    | _, _ => refuse s .badParam

def execStageChannel (p : PortId) (tag : Half) (channel mask enabled reference : Byte)
    (gateLength settle : Half) (openLimit shortLimit : Tri) (s : State) :
    Host.Outcome State Fault Refusal :=
  .next (s.endGood p tag
    (requestCrc tag
      (.stageChannel channel mask enabled reference gateLength settle openLimit shortLimit))
    (stageChannelReply p channel mask enabled reference gateLength settle openLimit shortLimit))

/-- R138, R187. -/
def stageReferenceReply (p : PortId) (reference mask enabled : Byte) (settle cacheAgeMs holdOffMs : Half)
    (s : State) : Reply :=
  s.attachedOnly p <|
    match refOf reference, referenceForm mask enabled settle cacheAgeMs holdOffMs with
    | some r, some given =>
      if !s.holdsAll p then refuse s .notHolder
      else
        let hub := s.leases.hubStaging
        let merged := given.merge ((hub.refs.read r).getD StagedRef.blank)
        { state := s.setHubStaging { hub with refs := hub.refs.write r (some merged) }, status := .done
          payload := merged.bytes r }
    | _, _ => refuse s .badParam

def execStageReference (p : PortId) (tag : Half) (reference mask enabled : Byte)
    (settle cacheAgeMs holdOffMs : Half) (s : State) : Host.Outcome State Fault Refusal :=
  .next (s.endGood p tag
    (requestCrc tag (.stageReference reference mask enabled settle cacheAgeMs holdOffMs))
    (stageReferenceReply p reference mask enabled settle cacheAgeMs holdOffMs))

/-- R138, R187. -/
def stageHubReply (p : PortId) (mask : Byte) (ageStepMs extWaitMs : Half) (s : State) : Reply :=
  s.attachedOnly p <|
    match hubForm mask ageStepMs extWaitMs with
    | some (age, ext) =>
      if !s.holdsAll p then refuse s .notHolder
      else
        let hub := s.leases.hubStaging
        let merged :=
          { hub with ageStepMs := age.or hub.ageStepMs, extWaitMs := ext.or hub.extWaitMs }
        { state := s.setHubStaging merged, status := .done
          payload := hubFormBytes merged.ageStepMs merged.extWaitMs }
    | none => refuse s .badParam

def execStageHub (p : PortId) (tag : Half) (mask : Byte) (ageStepMs extWaitMs : Half) (s : State) :
    Host.Outcome State Fault Refusal :=
  .next (s.endGood p tag (requestCrc tag (.stageHub mask ageStepMs extWaitMs))
    (stageHubReply p mask ageStepMs extWaitMs))

/-- R139. -/
def unstageReply (p : PortId) (selector : Byte) (s : State) : Reply :=
  s.attachedOnly p <|
    match unstageSelector selector with
    | none => refuse s .badParam
    | some (some c) =>
      if !s.holds p (groupOf c) then refuse s .notHolder
      else if (s.leases.staging.read c).isNone then refuse s .notFound
      else { state := s.setStaging (s.leases.staging.write c none), status := .done, payload := [] }
    | some none =>
      if !s.holdsAll p then refuse s .notHolder
      else if !s.leases.hubStaging.nonempty then refuse s .notFound
      else { state := s.setHubStaging HubStaging.empty, status := .done, payload := [] }

def execUnstage (p : PortId) (tag : Half) (selector : Byte) (s : State) :
    Host.Outcome State Fault Refusal :=
  .next (s.endGood p tag (requestCrc tag (.unstage selector)) (unstageReply p selector))

end Sys2Proof.Machine
end

