-- ==== Sys2Proof/Machine/Committing.lean ====
section
/-!
DEFINITION. COMMIT (section 7.9): the configuration that would result, its validity, its application, and
its effects on the engine and the request queue.
-/
namespace Sys2Proof.Machine

/-! ## Validity (R9) -/

/-- R5, R9: every field in its range, and the short limit at least the open limit plus 1. -/
def ChannelSettings.valid (c : ChannelSettings) : Bool :=
  inRange 100 65535 c.gateLength && inRange 0 5000 c.settle && inRange 1 1000000 c.openLimit &&
    inRange (c.openLimit.toNat + 1) 16777215 c.shortLimit

/-- R7. -/
def RefRecord.valid (r : RefRecord) : Bool :=
  inRange 0 5000 r.settle && inRange 0 60000 r.cacheAgeMs && inRange 10 60000 r.holdOffMs

/-- R9: all twelve channel records, both reference records and both hub settings (R8). -/
def ChannelTable.valid (t : ChannelTable) : Bool :=
  (everyIndex 12).all (fun c => (t.channels.read c).settings.valid) && t.refs.a.valid && t.refs.b.valid &&
    (decide (t.ageStepMs = 0) || inRange 10 10000 t.ageStepMs) && inRange 1 1000 t.extWaitMs

/-- R140: the lowest channel whose record would not be valid. -/
def ChannelTable.lowestFailing (t : ChannelTable) : Option ChannelId :=
  (everyIndex 12).find? fun c => !(t.channels.read c).settings.valid

/-! ## The resulting configuration (R140, R141) -/

/-- R135: a field that is not staged keeps its committed value. -/
def StagedChannel.appliedTo (x : StagedChannel) (c : ChannelSettings) : ChannelSettings :=
  { enabled := x.enabled.getD c.enabled
    reference := x.reference.getD c.reference
    gateLength := x.gateLength.getD c.gateLength
    settle := x.settle.getD c.settle
    openLimit := x.openLimit.getD c.openLimit
    shortLimit := x.shortLimit.getD c.shortLimit }

def StagedRef.appliedTo (x : StagedRef) (r : RefRecord) : RefRecord :=
  { enabled := x.enabled.getD r.enabled
    settle := x.settle.getD r.settle
    cacheAgeMs := x.cacheAgeMs.getD r.cacheAgeMs
    holdOffMs := x.holdOffMs.getD r.holdOffMs }

/-- What a COMMIT covers: a group's staging buffer, or for HUB (`none`) all four buffers (R140). -/
abbrev CommitScope := Option GroupId

def CommitScope.covers (scope : CommitScope) (c : ChannelId) : Bool :=
  match scope with
  | none => true
  | some g => decide (groupOf c = g)

/-- The staged record of a channel, if a covered buffer holds one. -/
def State.coveredChannel (s : State) (scope : CommitScope) (c : ChannelId) : Option StagedChannel :=
  if scope.covers c then s.leases.staging.read c else none

/-- The hub staging buffer, if it is covered. -/
def State.coveredHub (s : State) (scope : CommitScope) : HubStaging :=
  match scope with
  | none => s.leases.hubStaging
  | some _ => HubStaging.empty

/-- R140 check 4. -/
def State.somethingStaged (s : State) (scope : CommitScope) : Bool :=
  (everyIndex 12).any (fun c => (s.coveredChannel scope c).isSome) || (s.coveredHub scope).nonempty

def State.settingsAfter (s : State) (scope : CommitScope) (c : ChannelId) : ChannelSettings :=
  (s.coveredChannel scope c).elim (s.channel c).settings fun x => x.appliedTo (s.channel c).settings

def State.refAfter (s : State) (scope : CommitScope) (r : RefId) : RefRecord :=
  ((s.coveredHub scope).refs.read r).elim (s.refRecord r) fun x => x.appliedTo (s.refRecord r)

/-- The commit changes the value of at least one field of the record. -/
def State.channelChanges (s : State) (scope : CommitScope) (c : ChannelId) : Bool :=
  decide (s.settingsAfter scope c ≠ (s.channel c).settings)

def State.refChanges (s : State) (scope : CommitScope) (r : RefId) : Bool :=
  decide (s.refAfter scope r ≠ s.refRecord r)

/-- R12: the channel's own record changes, or the reference record it names after the commit does. -/
def State.revisionAdvances (s : State) (scope : CommitScope) (c : ChannelId) : Bool :=
  s.channelChanges scope c || s.refChanges scope (s.settingsAfter scope c).reference

/-- R140, R141: the channel table that would result, with the revisions of R12. -/
def State.tableAfter (s : State) (scope : CommitScope) : ChannelTable :=
  { channels := Table.tabulate 12 fun c =>
      { settings := s.settingsAfter scope c
        revision := if s.revisionAdvances scope c then (s.channel c).revision + 1
          else (s.channel c).revision }
    refs := ⟨s.refAfter scope .a, s.refAfter scope .b⟩
    ageStepMs := (s.coveredHub scope).ageStepMs.getD s.config.ageStepMs
    extWaitMs := (s.coveredHub scope).extWaitMs.getD s.config.extWaitMs }

/-! ## Application (R141, R40) -/

/-- R40. -/
def RefHealth.afterCommit (enabled : Bool) : RefHealth :=
  { state := if enabled then .unknown else .disabled, cache := none, cacheExpiry := none, holdOff := none }

def State.healthAfter (s : State) (scope : CommitScope) (r : RefId) : RefHealth :=
  if s.refChanges scope r then RefHealth.afterCommit (s.refAfter scope r).enabled else s.health r

/-- R141: the covered buffers become empty; the others stay. -/
def State.stagingAfter (s : State) (scope : CommitScope) : Table 12 (Option StagedChannel) :=
  Table.tabulate 12 fun c => if scope.covers c then none else s.leases.staging.read c

/-- R141: one step over the channel table, the reference health and the staging buffers. -/
def State.applyCommit (s : State) (scope : CommitScope) : State :=
  let table := s.setConfig (s.tableAfter scope)
  let health := table.setEngine
    { s.engine with health := ⟨s.healthAfter scope .a, s.healthAfter scope .b⟩ }
  let staged := health.setStaging (s.stagingAfter scope)
  match scope with
  | none => staged.setHubStaging HubStaging.empty
  | some _ => staged

/-! ## Effects on the engine and the queue (R142) -/

/-- R142 step 1, R41: the commit changes the record of the channel in flight, or the reference record the
engine recorded at dispatch. -/
def State.commitAborts (s : State) (scope : CommitScope) : Bool :=
  match s.engine.conversion with
  | none => false
  | some c => s.channelChanges scope c.channel || s.refChanges scope c.reference

/-- R66: an ABORTED record for each waiter of the IN_FLIGHT entry, which is then removed. -/
def State.abortInFlight (s : State) : State :=
  let stopped := s.stopEngine
  match stopped.inFlightEntry with
  | none => stopped
  | some e => (stopped.deliver e .aborted).removeEntry e

/-- R67: PENDING on a channel that is unusable under the configuration just applied. -/
def State.disables (s : State) (e : Entry) : Bool := e.isPending && !s.usable e.channel

/-- R67: a DISABLED record for each waiter of each such entry, in creation order; then they are removed. -/
def State.removeDisabled (s : State) : State :=
  let gone := s.entries.filter s.disables
  let told := gone.foldl (fun t e => t.deliver e .disabled) s
  told.setEntries (s.entries.filter fun e => !s.disables e)

/-- R188: the COMMIT report. `t` is the state once step 1 of R142 is done. -/
def commitPayload (s t : State) (scope : CommitScope) : List Byte :=
  let advanced := (everyIndex 12).filter (s.revisionAdvances scope)
  let mask : Half := advanced.foldl (fun m c => m ||| (1 <<< c.val)) 0
  be16 mask ++ advanced.flatMap (fun c => be16 ((s.channel c).revision + 1)) ++
    [(if s.refChanges scope .a then 1 else 0) ||| (if s.refChanges scope .b then 2 else 0),
     flagByte (s.commitAborts scope), byteOf (t.entries.countP t.disables)]

/-- R141, R142: a COMMIT that passes all checks. -/
def State.commit (s : State) (scope : CommitScope) : Reply :=
  let applied := s.applyCommit scope
  let aborted := if s.commitAborts scope then applied.abortInFlight else applied
  { state := aborted.removeDisabled.runArbiter, status := .done, payload := commitPayload s aborted scope }

/-- R140 check 3. -/
def State.mayCommit (s : State) (p : PortId) (scope : CommitScope) : Bool :=
  match scope with
  | none => s.holdsAll p
  | some g => s.holds p g

/-- R140: the checks in order. -/
def commitReply (p : PortId) (selector : Byte) (s : State) : Reply :=
  s.attachedOnly p <|
    match commitSelector selector with
    | none => refuse s .badParam
    | some scope =>
      if !s.mayCommit p scope then refuse s .notHolder
      else if !s.somethingStaged scope then refuse s .notFound
      else if !(s.tableAfter scope).valid then
        { state := s, status := .rejected
          payload := ((s.tableAfter scope).lowestFailing.map finCode).toList }
      else s.commit scope

def execCommit (p : PortId) (tag : Half) (selector : Byte) (s : State) :
    Host.Outcome State Fault Refusal :=
  .next (s.endGood p tag (requestCrc tag (.commit selector)) (commitReply p selector))

end Sys2Proof.Machine
end

