-- ==== Sys2Proof/Machine/Requests.lean ====
section
/-!
DEFINITION. CONVERT, CANCEL and QUEUE_STATUS (chapter 3).
-/
namespace Sys2Proof.Machine

/-- R50 check 6: the port has a DIRECT waiter in the PENDING entry with the key. -/
def State.directWaiterInPending (s : State) (p : PortId) (c : ChannelId) (gate : GateSource) : Bool :=
  s.entries.any fun e => e.isPending && e.hasKey c gate &&
    e.waiters.any fun w => decide (w.port = p) &&
      (match w.origin with
        | .direct _ => true
        | .schedule _ => false)

/-- R50: the checks after the parameters', in order; `none` admits the request. -/
def State.convertRefusal (s : State) (p : PortId) (tag : Half) (c : ChannelId) (gate : GateSource) :
    Option Status :=
  if !s.usable c then some .unusable
  else if s.tagInUse p tag then some .tagInUse
  else if s.freeCredits p = 0 then some .noCredit
  else if s.directWaiterInPending p c gate then some .duplicate
  else if s.queueFullFor c gate then some .queueFull
  else none

/-- R54, R188: NEW or JOINED, the arrival number of the entry, the free credits after the admission. -/
def convertPayload (s admitted : State) (p : PortId) (c : ChannelId) (gate : GateSource) : List Byte :=
  match s.pendingWithKey c gate with
  | some e => [1] ++ be32 e.arrival ++ [byteOf (admitted.freeCredits p)]
  | none => [0] ++ be32 s.queue.arrivals ++ [byteOf (admitted.freeCredits p)]

/-- R50 to R54; the arbiter runs where R58 says. -/
def convertReply (p : PortId) (tag : Half) (channel gate priority : Byte) (s : State) : Reply :=
  s.attachedOnly p <|
    match numbered 12 channel, gateOf gate, numbered 4 priority with
    | some c, some g, some n =>
      match s.convertRefusal p tag c g with
      | some status => refuse s status
      | none =>
        let admitted := s.enqueue c g { port := p, origin := .direct tag, priority := n }
        { state := admitted.runArbiter, status := .accepted, payload := convertPayload s admitted p c g }
    | _, _, _ => refuse s .badParam

def execConvert (p : PortId) (tag : Half) (channel gate priority : Byte) (s : State) :
    Host.Outcome State Fault Refusal :=
  .next (s.endGood p tag (requestCrc tag (.convert channel gate priority))
    (convertReply p tag channel gate priority))

/-- R62, R63: what became of the entry that lost the waiters `gone`: 0 it kept others, 1 a PENDING entry
was removed, 2 the conversion was aborted. -/
def removalIndication (gone : Waiter → Bool) (e : Entry) : Byte :=
  if (e.without gone).waiters.isEmpty then
    match e.state with
    | .pending => 1
    | .inFlight => 2
  else 0

/-- R63, R188. -/
def cancelReply (p : PortId) (target : Half) (s : State) : Reply :=
  s.attachedOnly p <|
    if target = 0 then refuse s .badParam
    else
      let gone := Waiter.isDirectOf p target
      match s.entries.find? fun e => e.waiters.any gone with
      | none => refuse s .notFound
      | some e =>
        let removed := s.removeWaiters gone
        { state := removed.runArbiter, status := .done
          payload := [removalIndication gone e, byteOf (removed.freeCredits p)] }

def execCancel (p : PortId) (tag target : Half) (s : State) : Host.Outcome State Fault Refusal :=
  .next (s.endGood p tag (requestCrc tag (.cancel target)) (cancelReply p target))

/-- R69, R188: one listed entry. -/
def State.listedEntry (s : State) (e : Entry) : List Byte :=
  [finCode e.channel,
   (if e.gate = .external then 4 else 0) ||| (if e.state = .inFlight then 2 else 0) |||
     (if s.heldBack e then 1 else 0),
   byteOf (s.effectivePriority e), byteOf e.waiters.length]

/-- R69: channel and gate source in flight, 0xFF each while IDLE (R188). -/
def inFlightKey (e : Engine) : List Byte :=
  match e.conversion with
  | some c => [finCode c.channel, c.gate.code]
  | none => [0xFF, 0xFF]

/-- R69, R188. -/
def queueStatusPayload (p : PortId) (s : State) : List Byte :=
  let listed := s.dispatchOrder.take Config.listedEntries
  [byteOf s.entries.length, s.engine.name.code] ++ inFlightKey s.engine ++
    [byteOf (s.freeCredits p), byteOf listed.length] ++ listed.flatMap s.listedEntry

def queueStatusReply (p : PortId) (s : State) : Reply :=
  s.attachedOnly p { state := s, status := .done, payload := queueStatusPayload p s }

def execQueueStatus (p : PortId) (tag : Half) (s : State) : Host.Outcome State Fault Refusal :=
  .next (s.endGood p tag (requestCrc tag .queueStatus) (queueStatusReply p))

end Sys2Proof.Machine
end

