-- ==== Sys2Proof/Machine/Results.lean ====
section
/-!
DEFINITION. READ_RESULT and FETCH (chapter 5).
-/
namespace Sys2Proof.Machine

/-- R88, R188. -/
def readResultPayload (s : State) (c : ChannelId) : List Byte :=
  [finCode c, (s.result c).statusCode] ++ (s.result c).block ++ be16 (s.channel c).revision ++
    [flagByte (s.usable c)]

/-- R88. -/
def readResultReply (p : PortId) (channel : Byte) (s : State) : Reply :=
  s.attachedOnly p <|
    match numbered 12 channel with
    | some c => { state := s, status := .done, payload := readResultPayload s c }
    | none => refuse s .badParam

def execReadResult (p : PortId) (tag : Half) (channel : Byte) (s : State) :
    Host.Outcome State Fault Refusal :=
  .next (s.endGood p tag (requestCrc tag (.readResult channel)) (readResultReply p channel))

/-- R95, R185: the head record is removed when the FETCH is taken. -/
def fetchReply (p : PortId) (s : State) : Reply :=
  s.attachedOnly p <|
    match s.cq p with
    | [] => { state := s, status := .empty, payload := [byteOf (s.freeCredits p)] }
    | r :: rest =>
      let removed := s.setCq p rest
      { state := removed, status := .done
        payload := r.bytes ++ [byteOf rest.length, byteOf (removed.freeCredits p)] }

def execFetch (p : PortId) (tag : Half) (s : State) : Host.Outcome State Fault Refusal :=
  .next (s.endGood p tag (requestCrc tag .fetch) (fetchReply p))

end Sys2Proof.Machine
end

