-- ==== Sys2Proof/Machine/Schedules.lean ====
section
/-!
DEFINITION. The schedule commands and the due event (chapter 4).
-/
namespace Sys2Proof.Machine

def Waiter.isOfSchedule (i : ScheduleId) (w : Waiter) : Bool := decide (w.origin = .schedule i)

/-- The entry a schedule's waiter stands in. -/
def State.entryOfSchedule (s : State) (i : ScheduleId) : Option Entry :=
  s.entries.find? fun e => e.waiters.any (Waiter.isOfSchedule i)

/-- R71: the free place with the lowest id. -/
def State.freePlace (s : State) : Option ScheduleId :=
  (everyIndex 8).find? fun i => (s.schedule i).isNone

/-- R71, R188. -/
def schedAddReply (p : PortId) (channel gate priority : Byte) (periodMs : Word) (s : State) : Reply :=
  s.attachedOnly p <|
    match numbered 12 channel, gateOf gate, numbered 4 priority, termOf periodMs with
    | some c, some g, some n, some period =>
      if !s.usable c then refuse s .unusable
      else
        match s.freePlace with
        | none => refuse s .tableFull
        | some i =>
          let due := s.hubTime + msToUs period
          { state := s.setSchedule i (some
              { owner := p, channel := c, gate := g, priority := n, periodMs := period,
                state := .active due, missCount := 0, runCount := 0, lastMiss := .none })
            status := .done, payload := [finCode i] ++ be32 due }
    | _, _, _, _ => refuse s .badParam

def execSchedAdd (p : PortId) (tag : Half) (channel gate priority : Byte) (periodMs : Word) (s : State) :
    Host.Outcome State Fault Refusal :=
  .next (s.endGood p tag (requestCrc tag (.schedAdd channel gate priority periodMs))
    (schedAddReply p channel gate priority periodMs))

/-- R72, checks 1 to 4, shared by SCHED_DELETE, SCHED_PAUSE and SCHED_RESUME. -/
def State.ownSchedule (s : State) (p : PortId) (schedule : Byte) (k : ScheduleId → Schedule → Reply) :
    Reply :=
  s.attachedOnly p <|
    match numbered 8 schedule with
    | none => refuse s .badParam
    | some i =>
      match s.schedule i with
      | none => refuse s .notFound
      | some x => if x.owner = p then k i x else refuse s .notHolder

/-- R72: NO_WAITER, WAITER_REMOVED or CONVERSION_ABORTED. -/
def State.deleteIndication (s : State) (i : ScheduleId) : Byte :=
  match s.entryOfSchedule i with
  | none => 0
  | some e => if removalIndication (Waiter.isOfSchedule i) e = 2 then 2 else 1

/-- R72, R188: the waiter is removed under R62 and the place becomes free. -/
def schedDeleteReply (p : PortId) (schedule : Byte) (s : State) : Reply :=
  s.ownSchedule p schedule fun i x =>
    { state := ((s.removeWaiters (Waiter.isOfSchedule i)).setSchedule i none).runArbiter, status := .done
      payload := [s.deleteIndication i] ++ be16 x.missCount ++ be32 x.runCount }

def execSchedDelete (p : PortId) (tag : Half) (schedule : Byte) (s : State) :
    Host.Outcome State Fault Refusal :=
  .next (s.endGood p tag (requestCrc tag (.schedDelete schedule)) (schedDeleteReply p schedule))

/-- R73. -/
def schedPauseReply (p : PortId) (schedule : Byte) (s : State) : Reply :=
  s.ownSchedule p schedule fun i x =>
    match x.state with
    | .active _ =>
      { state := s.setSchedule i (some { x with state := .paused }), status := .done, payload := [] }
    | .paused => refuse s .wrongState

def execSchedPause (p : PortId) (tag : Half) (schedule : Byte) (s : State) :
    Host.Outcome State Fault Refusal :=
  .next (s.endGood p tag (requestCrc tag (.schedPause schedule)) (schedPauseReply p schedule))

/-- R74, R188. -/
def schedResumeReply (p : PortId) (schedule : Byte) (s : State) : Reply :=
  s.ownSchedule p schedule fun i x =>
    match x.state with
    | .paused =>
      let due := s.hubTime + msToUs x.periodMs
      { state := s.setSchedule i (some { x with state := .active due }), status := .done
        payload := be32 due }
    | .active _ => refuse s .wrongState

def execSchedResume (p : PortId) (tag : Half) (schedule : Byte) (s : State) :
    Host.Outcome State Fault Refusal :=
  .next (s.endGood p tag (requestCrc tag (.schedResume schedule)) (schedResumeReply p schedule))

/-- R83, R188: for each id the owning port, or 0xFF. -/
def State.occupancy (s : State) : List Byte :=
  (everyIndex 8).map fun i => portOrAbsent ((s.schedule i).map Schedule.owner)

/-- R83, R188: bit 2 waiting, bit 1 entry IN_FLIGHT, bit 0 held. -/
def State.waiterAttributes (s : State) (i : ScheduleId) : Byte :=
  match s.entryOfSchedule i with
  | none => 0
  | some e => 4 ||| (if e.isInFlight then 2 else 0) ||| (if s.heldBack e then 1 else 0)

def ScheduleState.nextDue : ScheduleState → Option Time
  | .active due => some due
  | .paused => none

/-- R83, R188. -/
def schedStatusPayload (s : State) (i : ScheduleId) (x : Schedule) : List Byte :=
  s.occupancy ++ [finCode x.owner, finCode x.channel, x.gate.code, finCode x.priority] ++
    be32 x.periodMs ++ [x.state.code] ++ be32 (x.state.nextDue.getD 0) ++ be16 x.missCount ++
    be32 x.runCount ++ [x.lastMiss.code, s.waiterAttributes i]

/-- R83. -/
def schedStatusReply (p : PortId) (schedule : Byte) (s : State) : Reply :=
  s.attachedOnly p <|
    match numbered 8 schedule with
    | none => refuse s .badParam
    | some i =>
      match s.schedule i with
      | none => { state := s, status := .notFound, payload := s.occupancy }
      | some x => { state := s, status := .done, payload := schedStatusPayload s i x }

def execSchedStatus (p : PortId) (tag : Half) (schedule : Byte) (s : State) :
    Host.Outcome State Fault Refusal :=
  .next (s.endGood p tag (requestCrc tag (.schedStatus schedule)) (schedStatusReply p schedule))

/-! ## The due event (R75, R76) -/

/-- R76: the first condition that holds; `none` injects. -/
def State.missFor (s : State) (i : ScheduleId) (x : Schedule) : Option MissCause :=
  if (s.entryOfSchedule i).isSome then some .waiting
  else if !s.usable x.channel then some .unusable
  else if s.freeCredits x.owner = 0 then some .noCredit
  else if s.queueFullFor x.channel x.gate then some .queueFull
  else none

/-- R75: the due time advances by one period; then R76's decision is made once. -/
def State.scheduleDue (s : State) (i : ScheduleId) : State :=
  match s.schedule i with
  | none => s
  | some x =>
    match x.state with
    | .paused => s
    | .active due =>
      if reached s.hubTime due then
        let advanced := { x with state := .active (due + msToUs x.periodMs) }
        match s.missFor i x with
        | some cause =>
          s.setSchedule i
            (some { advanced with missCount := saturatingSucc x.missCount, lastMiss := cause })
        | none =>
          ((s.setSchedule i (some advanced)).enqueue x.channel x.gate
            { port := x.owner, origin := .schedule i, priority := x.priority }).runArbiter
      else s

def execScheduleDue (i : ScheduleId) (s : State) : Host.Outcome State Fault Refusal :=
  .next (s.scheduleDue i)

end Sys2Proof.Machine
end

