-- ==== Sys2Proof/Machine/Watches.lean ====
section
/-!
DEFINITION. WATCH_SET, WATCH_CLEAR, READ_NOTICES and ACK_NOTICE (chapter 6).
-/
namespace Sys2Proof.Machine

/-- R103 check 3: L ≤ H and 2Y ≤ H − L. -/
def boundsGood (low high hyst : Word) : Bool :=
  decide (low.toNat ≤ high.toNat) && decide (2 * hyst.toNat ≤ high.toNat - low.toNat)

/-- R103, R188. -/
def watchSetReply (p : PortId) (slot channel : Byte) (low high hyst : Word) (notify priority : Byte)
    (s : State) : Reply :=
  s.attachedOnly p <|
    match numbered 8 slot, numbered 12 channel, numbered 4 priority, notifyOf notify with
    | some i, some c, some n, some set =>
      if boundsGood low high hyst then
        let w := s.portWatch p
        let watch : Watch :=
          { channel := c, low := low, high := high, hyst := hyst, notify := set, priority := n,
            zone := .unknown }
        { state := s.setPortWatch p
            ({ w with slots := w.slots.write i (some watch) }.dropNotice (.slot i))
          status := .done
          payload := [flagByte (w.slots.read i).isSome, flagByte (w.hasNotice (.slot i))] }
      else refuse s .badParam
    | _, _, _, _ => refuse s .badParam

def execWatchSet (p : PortId) (tag : Half) (slot channel : Byte) (low high hyst : Word)
    (notify priority : Byte) (s : State) : Host.Outcome State Fault Refusal :=
  .next (s.endGood p tag (requestCrc tag (.watchSet slot channel low high hyst notify priority))
    (watchSetReply p slot channel low high hyst notify priority))

/-- R104, R188. -/
def watchClearReply (p : PortId) (slot : Byte) (s : State) : Reply :=
  s.attachedOnly p <|
    match numbered 8 slot with
    | none => refuse s .badParam
    | some i =>
      let w := s.portWatch p
      match w.slots.read i with
      | none => refuse s .notFound
      | some _ =>
        { state := s.setPortWatch p ({ w with slots := w.slots.write i none }.dropNotice (.slot i))
          status := .done, payload := [flagByte (w.hasNotice (.slot i))] }

def execWatchClear (p : PortId) (tag : Half) (slot : Byte) (s : State) :
    Host.Outcome State Fault Refusal :=
  .next (s.endGood p tag (requestCrc tag (.watchClear slot)) (watchClearReply p slot))

/-- R114, R186. -/
def readNoticesPayload (w : PortWatch) (start : Nat) : List Byte :=
  [byteOf (w.notices.length * 16 + start)] ++ w.slots.cells.map slotSummary ++
    ((w.notices.drop start).take Config.reportedNotices).flatMap Notice.bytes

/-- R114. -/
def readNoticesReply (p : PortId) (start : Byte) (s : State) : Reply :=
  s.attachedOnly p <|
    if 10 < start.toNat then refuse s .badParam
    else { state := s, status := .done, payload := readNoticesPayload (s.portWatch p) start.toNat }

def execReadNotices (p : PortId) (tag : Half) (start : Byte) (s : State) :
    Host.Outcome State Fault Refusal :=
  .next (s.endGood p tag (requestCrc tag (.readNotices start)) (readNoticesReply p start))

/-- R115, R188: a STALE answer carries the current generation and byte 0 of the notice. -/
def ackNoticeReply (p : PortId) (source : Byte) (generation : Half) (s : State) : Reply :=
  s.attachedOnly p <|
    match sourceOf source with
    | none => refuse s .badParam
    | some src =>
      let w := s.portWatch p
      match w.notices.find? fun n => decide (n.source = src) with
      | none => refuse s .notFound
      | some n =>
        if n.generation = generation then
          let acked := w.dropNotice src
          { state := s.setPortWatch p acked, status := .done, payload := [byteOf acked.notices.length] }
        else { state := s, status := .stale, payload := be16 n.generation ++ [n.head] }

def execAckNotice (p : PortId) (tag : Half) (source : Byte) (generation : Half) (s : State) :
    Host.Outcome State Fault Refusal :=
  .next (s.endGood p tag (requestCrc tag (.ackNotice source generation))
    (ackNoticeReply p source generation))

end Sys2Proof.Machine
end

