-- ==== Sys2Proof/Machine/Link.lean ====
section
/-!
DEFINITION. Transactions bit by bit (section 9.1): the start of one, and the end of one given as the bits
sampled on SDI.

What becomes of a transaction follows from its bits and the port's state, never from the name of the row
the sender used (log 5): SHORT_TRANSACTION, LINK_ERROR, REQUEST_DISCARDED, REPEAT and UNKNOWN_COMMAND are
the names of what R162, R167, R168, R172 and R176 make of it.
-/
namespace Sys2Proof.Machine

/-- The answer of the block that owns a command's state (R180, last column). -/
def answer (p : PortId) (tag : Half) (c : Command) (s : State) : Reply :=
  match c with
  | .nop => nopReply s
  | .hello client => helloReply p client s
  | .bind attention silenceMs => bindReply p attention silenceMs s
  | .detach => detachReply p s
  | .portStatus => portStatusReply p s
  | .convert channel gate priority => convertReply p tag channel gate priority s
  | .cancel target => cancelReply p target s
  | .queueStatus => queueStatusReply p s
  | .readResult channel => readResultReply p channel s
  | .fetch => fetchReply p s
  | .schedAdd channel gate priority periodMs => schedAddReply p channel gate priority periodMs s
  | .schedDelete schedule => schedDeleteReply p schedule s
  | .schedPause schedule => schedPauseReply p schedule s
  | .schedResume schedule => schedResumeReply p schedule s
  | .schedStatus schedule => schedStatusReply p schedule s
  | .watchSet slot channel low high hyst notify priority =>
    watchSetReply p slot channel low high hyst notify priority s
  | .watchClear slot => watchClearReply p slot s
  | .readNotices start => readNoticesReply p start s
  | .ackNotice source generation => ackNoticeReply p source generation s
  | .lease group kind termMs => leaseReply p tag group kind termMs s
  | .withdraw target => withdrawReply p target s
  | .renew group kind termMs => renewReply p group kind termMs s
  | .release group => releaseReply p group s
  | .groupStatus group => groupStatusReply p group s
  | .readChannel channel => readChannelReply p channel s
  | .readHub => readHubReply p s
  | .stageChannel channel mask enabled reference gateLength settle openLimit shortLimit =>
    stageChannelReply p channel mask enabled reference gateLength settle openLimit shortLimit s
  | .stageReference reference mask enabled settle cacheAgeMs holdOffMs =>
    stageReferenceReply p reference mask enabled settle cacheAgeMs holdOffMs s
  | .stageHub mask ageStepMs extWaitMs => stageHubReply p mask ageStepMs extWaitMs s
  | .unstage selector => unstageReply p selector s
  | .commit selector => commitReply p selector s

/-- R176: a good request whose CMD names no command is executed as this refusal. -/
def unknownReply (s : State) : Reply := refuse s .unknownCommand

/-- R161, R162, R167, R168: a rise of SELn after the rising edges whose SDI samples are `sdi`. -/
def State.endTransaction (s : State) (p : PortId) (sdi : List Bool) : State :=
  if sdi.length < Config.slotBits then s.endShort p
  else
    match checkRequest (receivedSlot sdi) with
    | .bad => s.endBad p
    | .unknown tag crc => s.endGood p tag crc unknownReply
    | .good tag crc c => s.endGood p tag crc (answer p tag c)

/-- R161, R165. -/
def execTransactionStart (p : PortId) (s : State) : Host.Outcome State Fault Refusal :=
  .next (s.beginTransaction p)

/-- R168, R174. -/
def execShortTransaction (p : PortId) (sdi : List Bool) (s : State) :
    Host.Outcome State Fault Refusal :=
  .next (s.endTransaction p sdi)

/-- R170, R174. -/
def execLinkError (p : PortId) (sdi : List Bool) (s : State) : Host.Outcome State Fault Refusal :=
  .next (s.endTransaction p sdi)

/-- R167, R169. -/
def execRequestDiscarded (p : PortId) (sdi : List Bool) (s : State) :
    Host.Outcome State Fault Refusal :=
  .next (s.endTransaction p sdi)

/-- R172. -/
def execRepeatRequest (p : PortId) (sdi : List Bool) (s : State) :
    Host.Outcome State Fault Refusal :=
  .next (s.endTransaction p sdi)

/-- R176, R171. -/
def execUnknownCommand (p : PortId) (sdi : List Bool) (s : State) :
    Host.Outcome State Fault Refusal :=
  .next (s.endTransaction p sdi)

end Sys2Proof.Machine
end

