-- ==== Sys2Proof/Machine/Dispatch.lean ====
section
/-!
DEFINITION. One arm per command, each a direct call of its meaning.
-/
namespace Sys2Proof.Machine

def exec (i : Instr) (s : State) : Host.Outcome State Fault Refusal :=
  match i with
  | .hubReset => Sys2Proof.Machine.execHubReset s
  | .hubResetRelease => Sys2Proof.Machine.execHubResetRelease s
  | .portResetAssert p => Sys2Proof.Machine.execPortResetAssert p s
  | .portResetRelease p => Sys2Proof.Machine.execPortResetRelease p s
  | .transactionStart p => Sys2Proof.Machine.execTransactionStart p s
  | .shortTransaction p sdi => Sys2Proof.Machine.execShortTransaction p sdi s
  | .linkError p sdi => Sys2Proof.Machine.execLinkError p sdi s
  | .requestDiscarded p sdi => Sys2Proof.Machine.execRequestDiscarded p sdi s
  | .repeatRequest p sdi => Sys2Proof.Machine.execRepeatRequest p sdi s
  | .unknownCommand p sdi => Sys2Proof.Machine.execUnknownCommand p sdi s
  | .nop p tag => Sys2Proof.Machine.execNop p tag s
  | .hello p tag client => Sys2Proof.Machine.execHello p tag client s
  | .bind p tag attention silenceMs => Sys2Proof.Machine.execBind p tag attention silenceMs s
  | .detach p tag => Sys2Proof.Machine.execDetach p tag s
  | .portStatus p tag => Sys2Proof.Machine.execPortStatus p tag s
  | .convert p tag channel gate priority => Sys2Proof.Machine.execConvert p tag channel gate priority s
  | .cancel p tag target => Sys2Proof.Machine.execCancel p tag target s
  | .queueStatus p tag => Sys2Proof.Machine.execQueueStatus p tag s
  | .readResult p tag channel => Sys2Proof.Machine.execReadResult p tag channel s
  | .fetch p tag => Sys2Proof.Machine.execFetch p tag s
  | .schedAdd p tag channel gate priority periodMs => Sys2Proof.Machine.execSchedAdd p tag channel gate priority periodMs s
  | .schedDelete p tag schedule => Sys2Proof.Machine.execSchedDelete p tag schedule s
  | .schedPause p tag schedule => Sys2Proof.Machine.execSchedPause p tag schedule s
  | .schedResume p tag schedule => Sys2Proof.Machine.execSchedResume p tag schedule s
  | .schedStatus p tag schedule => Sys2Proof.Machine.execSchedStatus p tag schedule s
  | .watchSet p tag slot channel low high hyst notify priority => Sys2Proof.Machine.execWatchSet p tag slot channel low high hyst notify priority s
  | .watchClear p tag slot => Sys2Proof.Machine.execWatchClear p tag slot s
  | .readNotices p tag start => Sys2Proof.Machine.execReadNotices p tag start s
  | .ackNotice p tag source generation => Sys2Proof.Machine.execAckNotice p tag source generation s
  | .lease p tag group kind termMs => Sys2Proof.Machine.execLease p tag group kind termMs s
  | .withdraw p tag target => Sys2Proof.Machine.execWithdraw p tag target s
  | .renew p tag group kind termMs => Sys2Proof.Machine.execRenew p tag group kind termMs s
  | .release p tag group => Sys2Proof.Machine.execRelease p tag group s
  | .groupStatus p tag group => Sys2Proof.Machine.execGroupStatus p tag group s
  | .readChannel p tag channel => Sys2Proof.Machine.execReadChannel p tag channel s
  | .readHub p tag => Sys2Proof.Machine.execReadHub p tag s
  | .stageChannel p tag channel mask enabled reference gateLength settle openLimit shortLimit => Sys2Proof.Machine.execStageChannel p tag channel mask enabled reference gateLength settle openLimit shortLimit s
  | .stageReference p tag reference mask enabled settle cacheAgeMs holdOffMs => Sys2Proof.Machine.execStageReference p tag reference mask enabled settle cacheAgeMs holdOffMs s
  | .stageHub p tag mask ageStepMs extWaitMs => Sys2Proof.Machine.execStageHub p tag mask ageStepMs extWaitMs s
  | .unstage p tag selector => Sys2Proof.Machine.execUnstage p tag selector s
  | .commit p tag selector => Sys2Proof.Machine.execCommit p tag selector s
  | .responseReady p => Sys2Proof.Machine.execResponseReady p s
  | .bindWindowExpiry p => Sys2Proof.Machine.execBindWindowExpiry p s
  | .silenceExpiry p => Sys2Proof.Machine.execSilenceExpiry p s
  | .leaseExpiry g => Sys2Proof.Machine.execLeaseExpiry g s
  | .scheduleDue id => Sys2Proof.Machine.execScheduleDue id s
  | .holdOffExpiry r => Sys2Proof.Machine.execHoldOffExpiry r s
  | .cacheExpiry r => Sys2Proof.Machine.execCacheExpiry r s
  | .agingCapExpiry position => Sys2Proof.Machine.execAgingCapExpiry position s
  | .settleEnd => Sys2Proof.Machine.execSettleEnd s
  | .gateClose => Sys2Proof.Machine.execGateClose s
  | .stall => Sys2Proof.Machine.execStall s
  | .pairDeadlineExpiry => Sys2Proof.Machine.execPairDeadlineExpiry s
  | .oscillatorEdge => Sys2Proof.Machine.execOscillatorEdge s
  | .gateRisingEdge => Sys2Proof.Machine.execGateRisingEdge s
  | .hubTimeAdvance => Sys2Proof.Machine.execHubTimeAdvance s

end Sys2Proof.Machine
end

