-- ==== Sys2Proof/Safety.lean ====
section
/-!
DEFINITION. What counts as a safe run, and the properties of a state that every step keeps, in the terms
the statements use.
-/
namespace Sys2Proof.Machine

/-! ## Timely runs (R22, log 4) -/

/-- The deadlines the part keeps at the moment: engine, references, entries, schedules, leases, ports. -/
def Engine.deadlines (e : Engine) : List Time :=
  (match e.conversion with
    | none => []
    | some c =>
      match c.phase with
      | .settle deadline => [deadline]
      | .arm pair => [pair]
      | .count _ stallAt bound => [stallAt, bound]) ++
    e.health.a.cacheExpiry.toList ++ e.health.a.holdOff.toList ++ e.health.b.cacheExpiry.toList ++
    e.health.b.holdOff.toList

def PortController.deadlines (c : PortController) : List Time :=
  (match c.state with
    | .binding _ window => [window]
    | .attached a => a.silenceDeadline.toList
    | .offline => []
    | .linked => []) ++
  (match c.held with
    | .preparing _ readyAt => [readyAt]
    | .none => []
    | .ready _ => []
    | .interrupted _ => [])

def Lease.deadlines : Lease → List Time
  | .held _ _ expiry => [expiry]
  | .free => []

def Schedule.deadlines (x : Schedule) : List Time :=
  match x.state with
  | .active due => [due]
  | .paused => []

def State.deadlines (s : State) : List Time :=
  s.engine.deadlines ++ s.entries.flatMap (fun e => e.agingDeadline.toList) ++
    s.schedules.cells.flatMap (fun c => c.elim [] Schedule.deadlines) ++
    s.leases.groups.cells.flatMap (fun g => g.lease.deadlines) ++
    s.ports.cells.flatMap PortController.deadlines

/-- A timely run takes the tick only when no deadline is reached and untaken (R22: an expiry "is reached
once, at the right time"). -/
def State.mayTick (s : State) : Bool := s.deadlines.all fun d => !reached s.hubTime d

/-- A safe next command: everything but a tick that passes a reached deadline. -/
def State.timely (s : State) (c : Instr) : Bool := decide (c ≠ .hubTimeAdvance) || s.mayTick

/-! ## Properties every step keeps -/

/-- R9: the committed channel table is valid at every moment. -/
def State.ConfigSound (s : State) : Prop := s.config.valid = true

/-- R189: while RESET is held low every block holds its reset values. -/
def State.ResetSound (s : State) : Prop := s.inReset = true → s = s.resetBlocks true

/-- R47. -/
structure State.QueueSound (s : State) : Prop where
  /-- At most 24 entries. -/
  capacity : s.entries.length ≤ 24
  /-- Every entry has at least one waiter. -/
  waited : ∀ e ∈ s.entries, e.waiters ≠ []
  /-- No two PENDING entries share a channel and gate source. -/
  keys : s.entries.Pairwise fun e f =>
    ¬(e.state = .pending ∧ f.state = .pending ∧ e.channel = f.channel ∧ e.gate = f.gate)
  /-- At most one IN_FLIGHT entry. -/
  oneInFlight : s.entries.countP Entry.isInFlight ≤ 1
  /-- One exactly while the engine is not IDLE. -/
  inFlight : s.engine.conversion.isSome = true ↔ ∃ e ∈ s.entries, e.state = .inFlight
  /-- It is the entry the engine converts. -/
  converting : ∀ c, s.engine.conversion = some c → ∀ e ∈ s.entries, e.state = .inFlight →
    e.channel = c.channel ∧ e.gate = c.gate

/-- R1: the network each engine state selects (section 2.2). -/
def Engine.selected (e : Engine) : Selection :=
  match e.conversion with
  | none => .none
  | some c => if c.refCount.isSome then .sensor c.channel else .reference c.reference

/-- R1: the selection stands as the engine set it at the start of the phase. -/
def State.SelectionSound (s : State) : Prop := s.selection = s.engine.selected

/-- R93, first half. -/
def State.CreditSound (s : State) : Prop := ∀ p, s.holdings p ≤ 16

/-- R93, R82, R119, R133: a port that is not ATTACHED holds nothing in any block. -/
structure State.HoldsNothing (s : State) (p : PortId) : Prop where
  credits : s.holdings p = 0
  schedules : ∀ i x, s.schedule i = some x → x.owner ≠ p
  watches : s.portWatch p = PortWatch.reset
  groups : ∀ g, s.holder g ≠ some p

def State.AccountsSound (s : State) : Prop := ∀ p, s.isAttached p = false → s.HoldsNothing p

/-- The nonzero tags of a port's outstanding items, each as often as an item carries it (R94). -/
def Origin.tags : Origin → List Half
  | .direct tag => [tag]
  | .schedule _ => []

def Completion.tags : Completion → List Half
  | .request origin _ _ _ _ => origin.tags
  | .lease tag _ _ _ _ => [tag]

def Waiter.tagsOf (p : PortId) (w : Waiter) : List Half := if w.port = p then w.origin.tags else []

def LeaseRequest.tagsOf (p : PortId) (q : LeaseRequest) : List Half := if q.port = p then [q.tag] else []

def State.outstandingTags (s : State) (p : PortId) : List Half :=
  (s.entries.flatMap (fun e => e.waiters.flatMap (Waiter.tagsOf p)) ++
    (everyIndex 3).flatMap (fun g => (s.group g).waiting.flatMap (LeaseRequest.tagsOf p)) ++
    (s.cq p).flatMap Completion.tags).filter (fun t => decide (t ≠ 0))

/-- R94: no two outstanding items of a port carry the same nonzero tag. -/
def State.TagsSound (s : State) : Prop := ∀ p, (s.outstandingTags p).Nodup

/-- R108, R110, R113. -/
structure PortWatch.Sound (w : PortWatch) : Prop where
  /-- At most one notice per source. -/
  sources : (w.notices.map Notice.source).Nodup
  /-- In order of priority, highest first. -/
  ordered : w.notices.Pairwise fun m n => n.priority ≤ m.priority
  /-- A notice carries its source's generation. -/
  generations : ∀ n ∈ w.notices, n.generation = w.generations.read n.source.index
  /-- A change count is 1–255. -/
  changes : ∀ n ∈ w.notices, n.changes ≠ 0

def State.NoticesSound (s : State) : Prop := ∀ p, (s.portWatch p).Sound

/-- R123. -/
structure GroupLease.Sound (g : GroupLease) : Prop where
  /-- At most two requests wait. -/
  length : g.waiting.length ≤ 2
  /-- They are from distinct ports. -/
  distinct : (g.waiting.map LeaseRequest.port).Nodup
  /-- The holder is not in the group's wait list. -/
  holder : ∀ q ∈ g.waiting, g.lease.holder ≠ some q.port
  /-- Nothing waits for a FREE group. -/
  free : g.lease = .free → g.waiting = []

def State.WaitListsSound (s : State) : Prop := ∀ g, (s.group g).Sound

/-- R136: a group staging buffer is non-empty only while its group is held, and the hub staging buffer
only while one port holds all three groups. -/
def State.StagingSound (s : State) : Prop :=
  (∀ c, (s.leases.staging.read c).isSome = true → (s.holder (groupOf c)).isSome = true) ∧
  (s.leases.hubStaging.nonempty = true → ∃ p, s.holdsAll p = true)

/-- R146, R165, R175. -/
structure PortController.Sound (c : PortController) : Prop where
  /-- An OFFLINE port holds nothing of the link. -/
  offline : c.state = .offline →
    c.held = .none ∧ c.backlog = false ∧ c.repeatRecord = none ∧ c.transactions = []
  /-- A transaction that began with no response held shifts an IDLE slot. -/
  idle : ∀ t ∈ c.transactions, t.began = .none →
    t.slot.status = .idle ∧ t.slot.tagEcho = 0 ∧ t.slot.payload = []
  /-- One that began with the response in preparation shifts a NOT_READY slot. -/
  notReady : ∀ t ∈ c.transactions, t.began = .preparing →
    t.slot.status = .notReady ∧ t.slot.tagEcho = 0 ∧ t.slot.payload = []

def State.PortsSound (s : State) : Prop := ∀ p, (s.port p).Sound

/-- R169, where no fall of SELn comes while the end of an earlier transaction waits for HCLK (R190). -/
structure PortController.BacklogSound (c : PortController) : Prop where
  /-- One transaction at a time. -/
  single : c.transactions.length ≤ 1
  /-- While the backlog marker is set no response is held. -/
  unheld : c.backlog = true → c.held = .none
  /-- A transaction that began with the marker set shifts a slot that carries BACKLOG. -/
  carried : c.backlog = true → ∀ t, c.transaction = some t → t.slot.flags.backlog = true

def State.BacklogSound (s : State) : Prop := ∀ p, (s.port p).BacklogSound

/-- The command at the front of the queue begins no transaction behind one whose end is not taken. -/
def State.NoSecondFall (s : State) : Prop :=
  ∀ p, s.pending.head? = some (.transactionStart p) → (s.port p).transaction = none

/-- R23: while the engine is IDLE its context is empty, the edge counter with it (log 18). -/
def State.CounterSound (s : State) : Prop := s.engine.conversion = none → s.engine.edgeCounter = 0

/-- R58: while the engine is IDLE no entry is dispatchable once an event has been taken: the arbiter has
run. -/
def State.ArbiterSound (s : State) : Prop :=
  s.engine.conversion = none → ∀ e ∈ s.entries, s.dispatchable e = false

/-! ## Terms of the statements -/

/-- The port takes a request for execution: the transaction whose end is taken next began with the held
response NONE or READY (R167), and the repeat record does not match (R172). Of several that wait for HCLK
the oldest is next (log 23). -/
def State.Takes (s : State) (p : PortId) (t : Transaction) (tag crc : Half) : Prop :=
  (s.port p).transaction = some t ∧ (t.began = .none ∨ t.began = .ready) ∧
    (s.port p).repeated tag crc = none

/-- The port takes the command, sent with this header tag, for execution. -/
def State.Executes (s : State) (p : PortId) (t : Transaction) (tag : Half) (c : Command) : Prop :=
  s.Takes p t tag (requestCrc tag c)

/-- The same, on an ATTACHED port. -/
def State.Serves (s : State) (p : PortId) (t : Transaction) (tag : Half) (c : Command) : Prop :=
  s.Executes p t tag c ∧ s.isAttached p = true

/-- The port controller when the request is handled: the transaction is over, its delivery is finished
(R167, R169) and the silence deadline is set afresh (R151). -/
def PortController.taking (c : PortController) (t : Transaction) (now : Time) : PortController :=
  { c with transactions := c.transactions.tail, held := .none, backlog := c.backlog && !t.slot.flags.backlog,
           state := restartedSilence now c.state }

/-- The state in which the request is handled: `s`, with that port controller. -/
def State.taken (s : State) (p : PortId) (t : Transaction) : State :=
  s.setPort p ((s.port p).taking t s.hubTime)

/-- The port controller once the response is held (R166) and is the repeat record (R171). -/
def PortController.answered (c : PortController) (now : Time) (tag crc : Half) (status : Status)
    (payload : List Byte) : PortController :=
  let r : Response := { status := status, tagEcho := tag, payload := payload, isRepeat := false }
  { c with held := .preparing r (now + 5)
           repeatRecord := if tag = 0 then none else some { tag := tag, crc := crc, response := r } }

/-- A port controller after a hub reset (R160, R175): OFFLINE or LINKED, and nothing else held. -/
def PortController.AfterHubReset (c : PortController) : Prop :=
  c.cause = .hubReset ∧ c.held = .none ∧ c.backlog = false ∧ c.repeatRecord = none ∧ c.linkErrors = 0 ∧
    c.transactions = []

/-- Every block but the port controllers holds the values its own chapter gives for a hub reset. -/
structure State.AtResetValues (t : State) : Prop where
  /-- R1. -/
  selection : t.selection = .none
  /-- R5, R10. -/
  channels : ∀ c, t.channel c =
    { settings := { enabled := false, reference := .a, gateLength := 1000, settle := 200, openLimit := 16,
                    shortLimit := 8000000 }
      revision := 0 }
  /-- R7. -/
  references : ∀ r, t.refRecord r =
    { enabled := false, settle := 200, cacheAgeMs := 2000, holdOffMs := 1000 }
  /-- R8. -/
  settings : t.config.ageStepMs = 500 ∧ t.config.extWaitMs = 50
  /-- R21. -/
  hubTime : t.hubTime = 0
  /-- R23, R43. -/
  engine : t.engine.conversion = none ∧ t.engine.edgeCounter = 0 ∧ ∀ r, t.health r =
    { state := .disabled, cache := none, cacheExpiry := none, holdOff := none }
  /-- R49. -/
  queue : t.entries = [] ∧ t.queue.arrivals = 0
  /-- R81. -/
  schedules : ∀ i, t.schedule i = none
  /-- R85. -/
  results : ∀ c, t.result c = { seq := 0, outcome := none }
  /-- R99. -/
  completions : ∀ p, t.cq p = []
  /-- R120. -/
  watches : ∀ p, (t.portWatch p).notices = [] ∧ (∀ i, (t.portWatch p).slots.read i = none) ∧
    ∀ k, (t.portWatch p).generations.read k = 0
  /-- R122. -/
  leases : ∀ g, t.group g = { lease := .free, waiting := [] }
  /-- R135. -/
  staging : (∀ c, t.leases.staging.read c = none) ∧ t.leases.hubStaging.nonempty = false

/-- `s`, with the response to the command held on port `p`. -/
def State.answered (s : State) (p : PortId) (tag : Half) (c : Command) (status : Status)
    (payload : List Byte) : State :=
  s.setPort p ((s.port p).answered s.hubTime tag (requestCrc tag c) status payload)

end Sys2Proof.Machine
end

