-- ==== Sys2Proof/WellFormed.lean ====
section
/-!
DEFINITION. Which terms of Instr are well formed, and the request each command row stands for.

The five rows that carry SDI bits are named after what a transaction turns out to be. A well-formed term
carries bits that its name can be true of, as far as bits alone decide; the state of the port decides the
rest (log 5). `exec` gives every term its meaning, well formed or not, from the bits and the state.
-/
namespace Sys2Proof

open Machine

/-- The row stands for a full transaction with this good request: port, header tag and command (R180). -/
def Instr.request : Instr → Option (PortId × Half × Command)
  | .nop p tag => some (p, tag, .nop)
  | .hello p tag client => some (p, tag, .hello client)
  | .bind p tag attention silenceMs => some (p, tag, .bind attention silenceMs)
  | .detach p tag => some (p, tag, .detach)
  | .portStatus p tag => some (p, tag, .portStatus)
  | .convert p tag channel gate priority => some (p, tag, .convert channel gate priority)
  | .cancel p tag target => some (p, tag, .cancel target)
  | .queueStatus p tag => some (p, tag, .queueStatus)
  | .readResult p tag channel => some (p, tag, .readResult channel)
  | .fetch p tag => some (p, tag, .fetch)
  | .schedAdd p tag channel gate priority periodMs =>
    some (p, tag, .schedAdd channel gate priority periodMs)
  | .schedDelete p tag schedule => some (p, tag, .schedDelete schedule)
  | .schedPause p tag schedule => some (p, tag, .schedPause schedule)
  | .schedResume p tag schedule => some (p, tag, .schedResume schedule)
  | .schedStatus p tag schedule => some (p, tag, .schedStatus schedule)
  | .watchSet p tag slot channel low high hyst notify priority =>
    some (p, tag, .watchSet slot channel low high hyst notify priority)
  | .watchClear p tag slot => some (p, tag, .watchClear slot)
  | .readNotices p tag start => some (p, tag, .readNotices start)
  | .ackNotice p tag source generation => some (p, tag, .ackNotice source generation)
  | .lease p tag group kind termMs => some (p, tag, .lease group kind termMs)
  | .withdraw p tag target => some (p, tag, .withdraw target)
  | .renew p tag group kind termMs => some (p, tag, .renew group kind termMs)
  | .release p tag group => some (p, tag, .release group)
  | .groupStatus p tag group => some (p, tag, .groupStatus group)
  | .readChannel p tag channel => some (p, tag, .readChannel channel)
  | .readHub p tag => some (p, tag, .readHub)
  | .stageChannel p tag channel mask enabled reference gateLength settle openLimit shortLimit =>
    some (p, tag, .stageChannel channel mask enabled reference gateLength settle openLimit shortLimit)
  | .stageReference p tag reference mask enabled settle cacheAgeMs holdOffMs =>
    some (p, tag, .stageReference reference mask enabled settle cacheAgeMs holdOffMs)
  | .stageHub p tag mask ageStepMs extWaitMs => some (p, tag, .stageHub mask ageStepMs extWaitMs)
  | .unstage p tag selector => some (p, tag, .unstage selector)
  | .commit p tag selector => some (p, tag, .commit selector)
  | _ => none

/-- The row of a command of R180. -/
def Instr.ofRequest (p : PortId) (tag : Half) : Command → Instr
  | .nop => .nop p tag
  | .hello client => .hello p tag client
  | .bind attention silenceMs => .bind p tag attention silenceMs
  | .detach => .detach p tag
  | .portStatus => .portStatus p tag
  | .convert channel gate priority => .convert p tag channel gate priority
  | .cancel target => .cancel p tag target
  | .queueStatus => .queueStatus p tag
  | .readResult channel => .readResult p tag channel
  | .fetch => .fetch p tag
  | .schedAdd channel gate priority periodMs => .schedAdd p tag channel gate priority periodMs
  | .schedDelete schedule => .schedDelete p tag schedule
  | .schedPause schedule => .schedPause p tag schedule
  | .schedResume schedule => .schedResume p tag schedule
  | .schedStatus schedule => .schedStatus p tag schedule
  | .watchSet slot channel low high hyst notify priority =>
    .watchSet p tag slot channel low high hyst notify priority
  | .watchClear slot => .watchClear p tag slot
  | .readNotices start => .readNotices p tag start
  | .ackNotice source generation => .ackNotice p tag source generation
  | .lease group kind termMs => .lease p tag group kind termMs
  | .withdraw target => .withdraw p tag target
  | .renew group kind termMs => .renew p tag group kind termMs
  | .release group => .release p tag group
  | .groupStatus group => .groupStatus p tag group
  | .readChannel channel => .readChannel p tag channel
  | .readHub => .readHub p tag
  | .stageChannel channel mask enabled reference gateLength settle openLimit shortLimit =>
    .stageChannel p tag channel mask enabled reference gateLength settle openLimit shortLimit
  | .stageReference reference mask enabled settle cacheAgeMs holdOffMs =>
    .stageReference p tag reference mask enabled settle cacheAgeMs holdOffMs
  | .stageHub mask ageStepMs extWaitMs => .stageHub p tag mask ageStepMs extWaitMs
  | .unstage selector => .unstage p tag selector
  | .commit selector => .commit p tag selector

/-- R161: at least 512 rising edges. -/
def fullTransaction (sdi : List Bool) : Bool := decide (Config.slotBits ≤ sdi.length)

/-- R162: the request received is bad. -/
def Machine.RequestCheck.isBad : RequestCheck → Bool
  | .bad => true
  | .unknown _ _ => false
  | .good _ _ _ => false

/-- R176: the request received is good and its CMD names no command. -/
def Machine.RequestCheck.isUnknown : RequestCheck → Bool
  | .unknown _ _ => true
  | .bad => false
  | .good _ _ _ => false

/-- R172: the request received is good and carries a nonzero tag. -/
def Machine.RequestCheck.isTagged : RequestCheck → Bool
  | .bad => false
  | .unknown tag _ => decide (tag ≠ 0)
  | .good tag _ _ => decide (tag ≠ 0)

def Instr.wellFormed : Instr → Bool
  | .shortTransaction _ sdi => !fullTransaction sdi
  | .linkError _ sdi => fullTransaction sdi && (checkRequest (receivedSlot sdi)).isBad
  | .requestDiscarded _ sdi => fullTransaction sdi
  | .repeatRequest _ sdi => fullTransaction sdi && (checkRequest (receivedSlot sdi)).isTagged
  | .unknownCommand _ sdi => fullTransaction sdi && (checkRequest (receivedSlot sdi)).isUnknown
  | _ => true

end Sys2Proof
end

