-- ==== Sys2Proof/Certificates/Slice0/Obligations.lean ====
section
/-!
DEFINITION. The statements, one definition each, in the order of OBLIGATIONS.json.

A command row is stated for a port that takes it for execution (`State.Executes`, and `State.Serves` on
an ATTACHED port). Its next state is then an equation: `s.taken p t` is the state in which the request is
handled, the command's own changes follow as named updates, and `answered` holds the response. Every part
of the state that the equation does not name is unchanged, which is the frame.
-/
open Sys2Proof Sys2Proof.Machine

/-! ## The machine, resets, teardown -/

/-- A step takes the command at the front of the queue; on an empty queue the block idles (log 2). -/
def Obligations.StepTakesFrontCommand : Prop :=
  (∀ (s : State) (c : Instr) (rest : List Instr),
    step (s.setPending (c :: rest)) = exec c (s.setPending rest)) ∧
  ∀ s : State, s.pending = [] → step s = .next s

/-- HUB_RESET and HUB_RESET_RELEASE (R189, R160): every block takes its reset values; a port is OFFLINE
exactly where its PRSTn was asserted. A rise of RESET that is already high is none (log 9). That a
transaction whose end waits for HCLK is abandoned like the one in progress is the model's inference (log 23). -/
def Obligations.HubResetGivesResetValues : Prop :=
  (∀ s : State, ∃ t, exec .hubReset s = .next t ∧ t.inReset = true ∧ t.AtResetValues ∧
    (∀ p, (t.port p).AfterHubReset ∧
      (t.port p).state = if (s.port p).state = .offline then .offline else .linked) ∧
    (∀ p, t.atnAsserted p = false) ∧ t.pending = s.pending) ∧
  (∀ s : State, s.inReset = true → ∃ t, exec .hubResetRelease s = .next t ∧ t.inReset = false ∧
    t.AtResetValues ∧
    (∀ p, (t.port p).AfterHubReset ∧
      (t.port p).state = if (s.port p).state = .offline then .offline else .linked) ∧
    (∀ p, t.atnAsserted p = false) ∧ t.pending = s.pending) ∧
  ∀ s : State, s.inReset = false → exec .hubResetRelease s = .next s

/-- While RESET is held low (R189) no command but RESET's rise and the PRST lines changes anything. -/
def Obligations.HubResetHoldsStill : Prop :=
  ∀ (s : State) (i : Instr), s.inReset = true → s.ResetSound → i ≠ .hubResetRelease →
    (∀ p, i ≠ .portResetAssert p) → (∀ p, i ≠ .portResetRelease p) → exec i s = .next s

/-- PORT_RESET_ASSERT and PORT_RESET_RELEASE (R146, R175). An ATTACHED port is torn down (what a teardown
does is TeardownLeavesNothing); any other changes its controller alone. In hub reset the port only follows
its PRSTn (log 20); an edge of a line already at that level is none (log 9). That a
transaction whose end waits for HCLK is abandoned like the one in progress is the model's inference (log 23). -/
def Obligations.PortResetTakesPortOffline : Prop :=
  (∀ (s : State) (p : PortId), s.inReset = false → (s.port p).state ≠ .offline →
    let offline : PortController :=
      { state := .offline, cause := .portReset, held := .none, backlog := false, repeatRecord := none,
        linkErrors := (s.port p).linkErrors, transactions := [] }
    let t := s.tearDown p PortController.portReset
    (s.isAttached p = true →
      exec (.portResetAssert p) s = .next t ∧ t.port p = offline ∧ t.HoldsNothing p ∧
      ∀ q, q ≠ p → t.port q = s.port q) ∧
    (s.isAttached p = false → exec (.portResetAssert p) s = .next (s.setPort p offline))) ∧
  (∀ (s : State) (p : PortId), s.inReset = false → (s.port p).state = .offline →
    exec (.portResetAssert p) s = .next s) ∧
  (∀ (s : State) (p : PortId), s.inReset = true →
    exec (.portResetAssert p) s = .next (s.setPort p
      { state := .offline, cause := .hubReset, held := .none, backlog := false, repeatRecord := none,
        linkErrors := 0, transactions := [] })) ∧
  ∀ (s : State) (p : PortId),
    ((s.port p).state = .offline →
      exec (.portResetRelease p) s = .next (s.setPort p { s.port p with state := .linked })) ∧
    ((s.port p).state ≠ .offline → exec (.portResetRelease p) s = .next s)

/-- Teardown (R154), whichever rule ends the attachment: the port ends holding nothing in any block, its
controller is what that rule makes of it, and the other ports keep their controllers, the records they
have and their schedules (of which only the run count may move).

The second part says what is removed before the arbiter's run, block by block (`u`): the queue keeps the
other ports' waiters in their entries and places (R68); the schedules, wait-list requests and staging of the
port are gone (R82, R133); each group it held passes to the first other request, with its LEASE_GRANTED
record and, where a request remains, RELEASE_REQUESTED (R129, R130); nothing is published. That the groups
pass on in the order G0, G1, G2, which a port granted several sees in its records and notices, is the
model's inference (log 16), and so is the 0 that a discarded edge counter reads (log 18). -/
def Obligations.TeardownLeavesNothing : Prop :=
  ∀ (s : State) (p : PortId) (next : PortController → PortController),
    let t := s.tearDown p next
    t.HoldsNothing p ∧ t.freeCredits p = 16 ∧ (∀ tag, t.tagInUse p tag = false) ∧
    t.atnAsserted p = false ∧
    t.port p = next (s.port p) ∧ (∀ q, q ≠ p → t.port q = s.port q) ∧
    t.config = s.config ∧ t.hubTime = s.hubTime ∧ t.inReset = s.inReset ∧ t.pending = s.pending ∧
    (∀ q, q ≠ p → s.cq q <+: t.cq q) ∧
    (∀ i x, s.schedule i = some x → x.owner ≠ p →
      ∃ n, t.schedule i = some { x with runCount := n }) ∧
    let left (e : Entry) : Entry :=
      { e with waiters := e.waiters.filter fun w => decide (w.port ≠ p) }
    let lost : Prop := ∃ f ∈ s.entries, f.state = .inFlight ∧ (left f).waiters = []
    let others (g : GroupId) : List LeaseRequest :=
      (s.group g).waiting.filter fun q => decide (q.port ≠ p)
    let expiry (q : LeaseRequest) : Time := s.hubTime + BitVec.ofNat 32 (q.termMs.toNat * 1000)
    let passed (g : GroupId) : GroupLease :=
      match others g with
      | [] => { lease := .free, waiting := [] }
      | q :: rest => { lease := .held q.port q.kind (expiry q), waiting := rest }
    let granted (q : PortId) (g : GroupId) : List Completion :=
      match others g with
      | [] => []
      | x :: _ =>
        if s.holder g = some p ∧ x.port = q then [.lease x.tag g x.kind (expiry x) s.hubTime] else []
    let asked (q : PortId) (w : PortWatch) (g : GroupId) : PortWatch :=
      match others g with
      | x :: _ :: _ =>
        if s.holder g = some p ∧ x.port = q then w.raise (.group g true false) 3 s.hubTime else w
      | _ => w
    ∃ u : State, t = u.runArbiter ∧
      u.entries = (s.entries.map left).filter (fun e => !e.waiters.isEmpty) ∧
      u.queue.arrivals = s.queue.arrivals ∧
      (lost → u.engine = { s.engine with conversion := none, edgeCounter := 0 } ∧ u.selection = .none) ∧
      (¬lost → u.engine = s.engine ∧ u.selection = s.selection) ∧
      (∀ i, u.schedule i = (s.schedule i).filter fun x => decide (x.owner ≠ p)) ∧
      (∀ g, u.group g =
        if s.holder g = some p then passed g else { s.group g with waiting := others g }) ∧
      (∀ c, u.leases.staging.read c =
        if s.holder (groupOf c) = some p then none else s.leases.staging.read c) ∧
      (s.holdsAll p = true → u.leases.hubStaging.nonempty = false) ∧
      (s.holdsAll p = false → u.leases.hubStaging = s.leases.hubStaging) ∧
      (∀ q, q ≠ p → u.cq q = s.cq q ++ (everyIndex 3).flatMap (granted q)) ∧
      (∀ q, q ≠ p → u.portWatch q = (everyIndex 3).foldl (asked q) (s.portWatch q)) ∧
      u.cq p = [] ∧ u.portWatch p = PortWatch.reset ∧
      u.results = s.results ∧ u.config = s.config ∧ u.hubTime = s.hubTime

/-! ## Transactions -/

/-- TRANSACTION_START (R161, R165): the slot shifted follows from the state of the held response, and a
composed slot carries the link flags as they stand; so too behind a transaction whose end waits for HCLK
(R190). While the port is OFFLINE or the part in hub reset the fall is ignored (R146, R189). -/
def Obligations.FallOfSelChoosesSlot : Prop :=
  ∀ (s : State) (p : PortId),
    let composed (status : Status) : Slot :=
      sealSlot { status := status, tagEcho := 0, payload := [], isRepeat := false }
        { backlog := (s.port p).backlog, isRepeat := false, cqNonempty := !(s.cq p).isEmpty,
          noticesPending := !(s.portWatch p).notices.isEmpty }
    let begins (began : HeldState) (slot : Slot) : Prop :=
      exec (.transactionStart p) s =
        .next (s.setPort p { s.port p with transactions := (s.port p).transactions ++
          [{ began := began, slot := slot }] })
    (s.inReset = false → (s.port p).state ≠ .offline →
      ((s.port p).held = .none → begins .none (composed .idle)) ∧
      (∀ r d, (s.port p).held = .preparing r d → begins .preparing (composed .notReady)) ∧
      (∀ x, (s.port p).held = .ready x → begins .ready x) ∧
      ∀ x, (s.port p).held = .interrupted x → begins .interrupted x) ∧
    (s.inReset = true ∨ (s.port p).state = .offline →
      exec (.transactionStart p) s = .next s)

/-- SHORT_TRANSACTION (R168): the request is discarded whatever it holds, the counter advances and stays
at 65,535, a READY response that was being shifted becomes INTERRUPTED, and all else stays. Two points are
the model's inference (log 23): here and below, where several ends wait for HCLK the oldest is taken first;
and a response that was READY when the transaction began and is no longer READY at its end stays as it is. -/
def Obligations.ShortTransactionInterrupts : Prop :=
  ∀ (s : State) (p : PortId) (t : Transaction) (sdi : List Bool),
    (s.port p).transaction = some t → sdi.length < 512 →
    let later := (s.port p).transactions.tail
    let counted : Half := if (s.port p).linkErrors = 65535 then 65535 else (s.port p).linkErrors + 1
    let ends (h : Held) : Prop :=
      exec (.shortTransaction p sdi) s =
        .next (s.setPort p { s.port p with transactions := later, linkErrors := counted, held := h })
    (∀ x, t.began = .ready → (s.port p).held = .ready x → ends (.interrupted x)) ∧
    (t.began ≠ .ready → ends (s.port p).held) ∧
    ((∀ x, (s.port p).held ≠ .ready x) → ends (s.port p).held)

/-- LINK_ERROR (R162, R167, R170, R174): a bad request under the NONE or READY case is counted and
answered with the counter; it executes nothing and leaves the repeat record and the silence deadline. -/
def Obligations.BadRequestAnsweredLinkError : Prop :=
  ∀ (s : State) (p : PortId) (t : Transaction) (sdi : List Bool),
    (s.port p).transaction = some t → (t.began = .none ∨ t.began = .ready) → 512 ≤ sdi.length →
    checkRequest (receivedSlot sdi) = .bad →
    let later := (s.port p).transactions.tail
    let counted : Half := if (s.port p).linkErrors = 65535 then 65535 else (s.port p).linkErrors + 1
    exec (.linkError p sdi) s = .next (s.setPort p
      { s.port p with
        transactions := later, linkErrors := counted
        backlog := (s.port p).backlog && !t.slot.flags.backlog
        held := .preparing
          { status := .linkError, tagEcho := 0, payload := be16 counted, isRepeat := false }
          (s.hubTime + 5) })

/-- REQUEST_DISCARDED (R167, R169, R151, R174): what becomes of the held response, the backlog marker,
the counter and the silence deadline; and a rise of SELn with no transaction in progress (R161). The end
taken is the oldest that waits (log 23, the model's inference). -/
def Obligations.RequestDiscardedUnexecuted : Prop :=
  ∀ (s : State) (p : PortId) (sdi : List Bool), 512 ≤ sdi.length →
    let bad := checkRequest (receivedSlot sdi) = .bad
    let later := (s.port p).transactions.tail
    let counted : Half := if (s.port p).linkErrors = 65535 then 65535 else (s.port p).linkErrors + 1
    let restarted := restartedSilence s.hubTime (s.port p).state
    let ends (c : PortController) : Prop := exec (.requestDiscarded p sdi) s = .next (s.setPort p c)
    (∀ t, (s.port p).transaction = some t → t.began = .interrupted →
      (¬bad → ends { s.port p with
        transactions := later, held := .none, backlog := true, state := restarted }) ∧
      (bad → ends { s.port p with transactions := later, held := .none, linkErrors := counted })) ∧
    (∀ t, (s.port p).transaction = some t → t.began = .preparing →
      (¬bad → ends { s.port p with transactions := later, state := restarted }) ∧
      (bad → ends { s.port p with transactions := later, linkErrors := counted })) ∧
    ((s.port p).transaction = none → exec (.requestDiscarded p sdi) s = .next s)

/-- REPEAT (R172): a good request with the tag and the CRC of the repeat record is answered from it, under
whichever row it is sent, and is not executed. -/
def Obligations.RepeatAnsweredFromRecord : Prop :=
  ∀ (s : State) (p : PortId) (t : Transaction) (tag : Half) (k : RepeatRecord),
    (s.port p).transaction = some t → (t.began = .none ∨ t.began = .ready) →
    (s.port p).repeatRecord = some k → tag ≠ 0 → k.tag = tag →
    let answered : State :=
      s.setPort p { (s.port p).taking t s.hubTime with
        held := .preparing { k.response with isRepeat := true } (s.hubTime + 5) }
    (∀ (sdi : List Bool) (c : Command), 512 ≤ sdi.length →
      (checkRequest (receivedSlot sdi) = .good tag k.crc c ∨
        checkRequest (receivedSlot sdi) = .unknown tag k.crc) →
      exec (.repeatRequest p sdi) s = .next answered) ∧
    ∀ (i : Instr) (c : Command), i.request = some (p, tag, c) → k.crc = requestCrc tag c →
      exec i s = .next answered

/-- UNKNOWN_COMMAND (R162, R176, R171): executed as a refusal with no payload; no link fault. -/
def Obligations.UnknownCommandRefused : Prop :=
  ∀ (s : State) (p : PortId) (t : Transaction) (sdi : List Bool) (tag crc : Half),
    512 ≤ sdi.length → checkRequest (receivedSlot sdi) = .unknown tag crc → s.Takes p t tag crc →
    exec (.unknownCommand p sdi) s = .next (s.setPort p
      (((s.port p).taking t s.hubTime).answered s.hubTime tag crc .unknownCommand []))

/-- RESPONSE_READY (R166, R173): at the readiness deadline the link flags are sampled and the response is
READY. Not yet reached, or in any other state, there is no such event (log 3). -/
def Obligations.ResponseBecomesReady : Prop :=
  ∀ (s : State) (p : PortId),
    (∀ r d, (s.port p).held = .preparing r d → reached s.hubTime d = true →
      exec (.responseReady p) s = .next (s.setPort p { s.port p with
        held := .ready (sealSlot r
          { backlog := (s.port p).backlog, isRepeat := r.isRepeat,
            cqNonempty := !(s.cq p).isEmpty,
            noticesPending := !(s.portWatch p).notices.isEmpty }) })) ∧
    (∀ r d, (s.port p).held = .preparing r d → reached s.hubTime d = false →
      exec (.responseReady p) s = .next s) ∧
    ((∀ r d, (s.port p).held ≠ .preparing r d) → exec (.responseReady p) s = .next s)

/-- A request slot read back (R161, R162, R180, R182): every command with every parameter value, every tag
and every padding comes back whole from the bits that carry it, whatever follows the 512th. -/
def Obligations.RequestSlotReadsBack : Prop :=
  ∀ (tag : Half) (c : Command) (padding : List Byte) (extra : List Bool),
    (requestSlot tag c padding).length = 64 →
    checkRequest (receivedSlot (bitsOfBytes (requestSlot tag c padding) ++ extra)) =
      .good tag (requestCrc tag c) c

/-- Rows and bits (R161, R162, R167, R180): the five rows that carry bits do the same with the same bits,
and with the bits of a command's request slot each does exactly what the command's own row does. That the
bits decide and not the row's name is the model's inference (log 5), and so is that a command row stands for
such a transaction (log 6). -/
def Obligations.BitsAndCommandRowAgree : Prop :=
  (∀ (s : State) (p : PortId) (sdi : List Bool),
    ∀ i ∈ [Instr.shortTransaction p sdi, .linkError p sdi, .requestDiscarded p sdi, .unknownCommand p sdi],
      exec i s = exec (.repeatRequest p sdi) s) ∧
  ∀ (s : State) (p : PortId) (tag : Half) (c : Command) (padding : List Byte) (extra : List Bool),
    (requestSlot tag c padding).length = 64 →
    let sdi := bitsOfBytes (requestSlot tag c padding) ++ extra
    ∀ i ∈ [Instr.shortTransaction p sdi, .linkError p sdi, .requestDiscarded p sdi, .repeatRequest p sdi,
        .unknownCommand p sdi],
      exec i s = exec (Instr.ofRequest p tag c) s

/-- R182, and the codes of R179: a response slot and a request slot hold every byte where the layout puts
it, with LEN in its range; a response slot is padded with 0x00, and the padding of a request slot is
ignored. The CRC is that of bytes 0 to LEN (R163). -/
def Obligations.StatusCodesAndSlotLayout : Prop :=
  ([Status.done, .accepted, .granted, .queued, .empty, .idle, .notReady, .linkError].map Status.code =
      [0x00, 0x01, 0x02, 0x03, 0x04, 0x05, 0x06, 0x07] ∧
    [Status.unknownCommand, .notAttached, .wrongState, .alreadyAttached, .badParam, .unusable, .tagInUse,
      .noCredit, .queueFull, .duplicate, .notFound, .notHolder, .heldAlready, .contended, .tableFull,
      .rejected, .stale].map Status.code =
      [0x10, 0x11, 0x12, 0x13, 0x14, 0x15, 0x16, 0x17, 0x18, 0x19, 0x1A, 0x1B, 0x1C, 0x1D, 0x1E, 0x1F,
        0x20]) ∧
  (∀ (r : Response) (flags : LinkFlags), r.payload.length ≤ 57 →
    let x := sealSlot r flags
    let n := r.payload.length
    x.bytes.length = 64 ∧
    byteAt x.bytes 0 = BitVec.ofNat 8 (n + 4) ∧ byteAt x.bytes 1 = r.status.code ∧
    halfAt x.bytes 2 = r.tagEcho ∧
    byteAt x.bytes 4 = (if flags.backlog then 8 else 0) + (if flags.isRepeat then 4 else 0) +
      (if flags.cqNonempty then 2 else 0) + (if flags.noticesPending then 1 else 0) ∧
    (x.bytes.drop 5).take n = r.payload ∧
    halfAt x.bytes (n + 5) = crc16 (x.bytes.take (n + 5)) ∧
    ∀ b ∈ x.bytes.drop (n + 7), b = 0) ∧
  ∀ (tag : Half) (c : Command) (padding : List Byte),
    let x := requestSlot tag c padding
    3 ≤ c.len ∧ c.len ≤ 60 ∧
    byteAt x 0 = BitVec.ofNat 8 c.len ∧ byteAt x 1 = c.code ∧ halfAt x 2 = tag ∧
    (x.drop 4).take (c.len - 3) = c.params ∧
    halfAt x (c.len + 1) = crc16 (x.take (c.len + 1)) ∧ x.drop (c.len + 3) = padding ∧
    ∀ other : List Byte, x.length = 64 → (requestSlot tag c other).length = 64 →
      checkRequest (requestSlot tag c other) = checkRequest x

/-- Every response fits its slot (R164, R188: LEN lies in 4–61), whatever the state. -/
def Obligations.EveryResponseFits : Prop :=
  ∀ (s : State) (p : PortId) (tag : Half) (c : Command), (answer p tag c s).payload.length ≤ 57

/-! ## Ports and reports (chapters 1, 3 to 8) -/

/-- The commands that report and change no state outside their port controller: NOP and PORT_STATUS in
every attach state (R150, R159), the others on an ATTACHED port (R69, R88, R83, R114, R134, R19, R20). -/
def Obligations.ReportsChangeNoState : Prop :=
  ∀ (s : State) (p : PortId) (t : Transaction) (tag : Half),
    let u := s.taken p t
    (s.Executes p t tag .nop → exec (.nop p tag) s = .next (u.answered p tag .nop .done [])) ∧
    (s.Executes p t tag .portStatus →
      exec (.portStatus p tag) s = .next (u.answered p tag .portStatus .done (portStatusPayload p u))) ∧
    (s.Serves p t tag .queueStatus →
      exec (.queueStatus p tag) s = .next (u.answered p tag .queueStatus .done (queueStatusPayload p u))) ∧
    (∀ b, s.Serves p t tag (.readResult b) →
      (∀ c, numbered 12 b = some c → exec (.readResult p tag b) s =
        .next (u.answered p tag (.readResult b) .done (readResultPayload u c))) ∧
      (numbered 12 b = none →
        exec (.readResult p tag b) s = .next (u.answered p tag (.readResult b) .badParam []))) ∧
    (∀ b, s.Serves p t tag (.schedStatus b) →
      (∀ i x, numbered 8 b = some i → s.schedule i = some x → exec (.schedStatus p tag b) s =
        .next (u.answered p tag (.schedStatus b) .done (schedStatusPayload u i x))) ∧
      (∀ i, numbered 8 b = some i → s.schedule i = none → exec (.schedStatus p tag b) s =
        .next (u.answered p tag (.schedStatus b) .notFound u.occupancy)) ∧
      (numbered 8 b = none →
        exec (.schedStatus p tag b) s = .next (u.answered p tag (.schedStatus b) .badParam []))) ∧
    (∀ b, s.Serves p t tag (.readNotices b) →
      (b.toNat ≤ 10 → exec (.readNotices p tag b) s =
        .next (u.answered p tag (.readNotices b) .done (readNoticesPayload (s.portWatch p) b.toNat))) ∧
      (10 < b.toNat →
        exec (.readNotices p tag b) s = .next (u.answered p tag (.readNotices b) .badParam []))) ∧
    (∀ b, s.Serves p t tag (.groupStatus b) →
      (∀ g, numbered 3 b = some g → exec (.groupStatus p tag b) s =
        .next (u.answered p tag (.groupStatus b) .done (groupStatusPayload p u g))) ∧
      (numbered 3 b = none →
        exec (.groupStatus p tag b) s = .next (u.answered p tag (.groupStatus b) .badParam []))) ∧
    (∀ b, s.Serves p t tag (.readChannel b) →
      (∀ c, numbered 12 b = some c → exec (.readChannel p tag b) s =
        .next (u.answered p tag (.readChannel b) .done (readChannelPayload u c))) ∧
      (numbered 12 b = none →
        exec (.readChannel p tag b) s = .next (u.answered p tag (.readChannel b) .badParam []))) ∧
    (s.Serves p t tag .readHub →
      exec (.readHub p tag) s = .next (u.answered p tag .readHub .done (readHubPayload u)))

/-- R150: on a port that is not ATTACHED every command but NOP, HELLO, BIND and PORT_STATUS is refused
NOT_ATTACHED before any check of its parameters, and changes no block. -/
def Obligations.UnattachedPortRefuses : Prop :=
  ∀ (s : State) (i : Instr) (p : PortId) (t : Transaction) (tag : Half) (c : Command),
    i.request = some (p, tag, c) → s.Executes p t tag c → s.isAttached p = false →
    c ≠ .nop → c ≠ .portStatus → (∀ client, c ≠ .hello client) → (∀ a ms, c ≠ .bind a ms) →
    exec i s = .next ((s.taken p t).answered p tag c .notAttached [])

/-- HELLO (R147): a fresh 250,000 µs window and the identifier kept as pending, from LINKED and from
BINDING; the cause is reported and kept; an ATTACHED port is left as it is. -/
def Obligations.HelloStartsBinding : Prop :=
  ∀ (s : State) (p : PortId) (t : Transaction) (tag : Half) (client : Word),
    s.Executes p t tag (.hello client) →
    let u := s.taken p t
    ((s.port p).state = .linked ∨ (∃ old window, (s.port p).state = .binding old window) →
      exec (.hello p tag client) s = .next
        ((u.setPort p { u.port p with state := .binding client (s.hubTime + 250000) }).answered p tag
          (.hello client) .done
          ([0x4B, 0x4A, 0x24, 0x10, 1, BitVec.ofNat 8 p.val, (s.port p).cause.code] ++ be32 250000))) ∧
    (s.isAttached p = true → exec (.hello p tag client) s =
      .next (u.answered p tag (.hello client) .alreadyAttached []))

/-- BIND (R149): ATTACHED with the pending identifier in force, the two parameters, the silence deadline
when the limit is not 0, and the cause NONE; a bad parameter or another state refuses it. The attention
enable is what ATNn follows (R158): in every state, ATNn is asserted exactly when port n is ATTACHED with
attention enabled and its completion queue or notice list is non-empty. -/
def Obligations.BindAttachesPort : Prop :=
  (∀ (s : State) (n : PortId), s.atnAsserted n = true ↔
    ∃ a, (s.port n).state = .attached a ∧ a.attention = true ∧
      (s.cq n ≠ [] ∨ (s.portWatch n).notices ≠ [])) ∧
  ∀ (s : State) (p : PortId) (t : Transaction) (tag : Half) (attention : Byte) (limit : Half),
    s.Executes p t tag (.bind attention limit) →
    let u := s.taken p t
    (∀ client window on, (s.port p).state = .binding client window → yesNo attention = some on →
      limit = 0 ∨ (50 ≤ limit.toNat ∧ limit.toNat ≤ 60000) →
      exec (.bind p tag attention limit) s = .next
        ((u.setPort p { u.port p with
            state := .attached
              { client := client, attention := on, silenceMs := limit
                silenceDeadline :=
                  if limit = 0 then none
                  else some (s.hubTime + BitVec.ofNat 32 (limit.toNat * 1000)) }
            cause := .none }).answered p tag (.bind attention limit) .done
          ([BitVec.ofNat 8 p.val] ++ be32 client ++ [if on then 1 else 0] ++ be16 limit ++
            [BitVec.ofNat 8 (s.freeCredits p)]))) ∧
    (∀ client window, (s.port p).state = .binding client window →
      yesNo attention = none ∨ ¬(limit = 0 ∨ (50 ≤ limit.toNat ∧ limit.toNat ≤ 60000)) →
      exec (.bind p tag attention limit) s =
        .next (u.answered p tag (.bind attention limit) .badParam [])) ∧
    ((∀ client window, (s.port p).state ≠ .binding client window) →
      exec (.bind p tag attention limit) s =
        .next (u.answered p tag (.bind attention limit) .wrongState [])) ∧
    (s.HoldsNothing p → s.freeCredits p = 16)

/-- DETACH (R153): the teardown with cause DETACH, and the report of what it discarded. That
the report is counted in the state the teardown finds is the model's inference (log 16). -/
def Obligations.DetachTearsDownAndReports : Prop :=
  ∀ (s : State) (p : PortId) (t : Transaction) (tag : Half), s.Serves p t tag .detach →
    exec (.detach p tag) s = .next
      (((s.taken p t).tearDown p fun c => { c with state := .linked, cause := .detach }).answered p tag
        .detach .done
        [BitVec.ofNat 8 (waitersOf p s.entries),
         if losesInFlight (fun w => decide (w.port = p)) s.entries then 1 else 0,
         BitVec.ofNat 8 (s.schedules.cells.countP fun c => c.any fun x => decide (x.owner = p)),
         BitVec.ofNat 8 ((s.portWatch p).slots.cells.countP Option.isSome),
         BitVec.ofNat 8 (s.portWatch p).notices.length,
         BitVec.ofNat 8 ((everyIndex 3).countP fun g => decide (s.holder g = some p)),
         BitVec.ofNat 8 (s.leaseRequestsOf p), BitVec.ofNat 8 (s.cq p).length])

/-! ## The request queue (chapter 3) -/

/-- CONVERT (R50 to R54): the seven checks in their order, each refusal with no effect outside the port
controller, and the admission, after which the arbiter runs. -/
def Obligations.ConvertCheckedAndAdmitted : Prop :=
  ∀ (s : State) (p : PortId) (t : Transaction) (tag : Half) (channel gate priority : Byte),
    let c := Command.convert channel gate priority
    s.Serves p t tag c →
    let u := s.taken p t
    let refused (status : Status) : Prop :=
      exec (.convert p tag channel gate priority) s = .next (u.answered p tag c status [])
    (numbered 12 channel = none ∨ gateOf gate = none ∨ numbered 4 priority = none → refused .badParam) ∧
    ∀ ch g n, numbered 12 channel = some ch → gateOf gate = some g → numbered 4 priority = some n →
      (s.usable ch = false → refused .unusable) ∧
      (s.usable ch = true → s.tagInUse p tag = true → refused .tagInUse) ∧
      (s.usable ch = true → s.tagInUse p tag = false → s.freeCredits p = 0 → refused .noCredit) ∧
      (s.usable ch = true → s.tagInUse p tag = false → s.freeCredits p ≠ 0 →
        s.directWaiterInPending p ch g = true → refused .duplicate) ∧
      (s.usable ch = true → s.tagInUse p tag = false → s.freeCredits p ≠ 0 →
        s.directWaiterInPending p ch g = false → s.pendingWithKey ch g = none →
        24 ≤ s.entries.length → refused .queueFull) ∧
      (s.usable ch = true → s.tagInUse p tag = false → s.freeCredits p ≠ 0 →
        s.directWaiterInPending p ch g = false →
        s.pendingWithKey ch g ≠ none ∨ s.entries.length < 24 →
        let admitted := u.enqueue ch g { port := p, origin := .direct tag, priority := n }
        exec (.convert p tag channel gate priority) s = .next
          (admitted.runArbiter.answered p tag c .accepted
            (match s.pendingWithKey ch g with
              | some e => [1] ++ be32 e.arrival ++ [BitVec.ofNat 8 (admitted.freeCredits p)]
              | none => [0] ++ be32 s.queue.arrivals ++ [BitVec.ofNat 8 (admitted.freeCredits p)])))

/-- R52, R53, R48: a request joins the PENDING entry with its key, at the end of its waiter list, or
creates an entry, last in the creation order; nothing else changes. A join takes a credit as a creation
does (R51), when no two PENDING entries share the key (R47). -/
def Obligations.AdmissionJoinsOrCreates : Prop :=
  ∀ (s : State) (c : ChannelId) (g : GateSource) (w : Waiter),
    (∀ e, s.pendingWithKey c g = some e →
      e ∈ s.entries ∧ e.state = .pending ∧ e.channel = c ∧ e.gate = g ∧
      s.enqueue c g w = s.setQueue
        { s.queue with
          entries := s.entries.map fun e =>
            if e.state = .pending ∧ e.channel = c ∧ e.gate = g then { e with waiters := e.waiters ++ [w] }
            else e }) ∧
    (s.pendingWithKey c g = none →
      (∀ e ∈ s.entries, ¬(e.state = .pending ∧ e.channel = c ∧ e.gate = g)) ∧
      s.enqueue c g w = s.setQueue
        { entries := s.entries ++
            [{ channel := c, gate := g, state := .pending, arrival := s.queue.arrivals,
               created := s.hubTime, agingDeadline := some (s.hubTime + 2147483647), waiters := [w] }]
          arrivals := s.queue.arrivals + 1 }) ∧
    (s.QueueSound → ∀ p,
      (s.enqueue c g w).holdings p = s.holdings p + if w.port = p then 1 else 0)

/-- R59: a PENDING entry is dispatchable unless its channel's group is held under an EXCLUSIVE lease and
none of its waiters belongs to the holder; an IN_FLIGHT entry is never chosen again. -/
def Obligations.DispatchableUnlessHeldBack : Prop :=
  ∀ (s : State) (e : Entry),
    (e.state = .inFlight → s.dispatchable e = false) ∧
    (e.state = .pending →
      (s.dispatchable e = false ↔
        ∃ holder expiry, (s.group (groupOf e.channel)).lease = .held holder .exclusive expiry ∧
          ∀ w ∈ e.waiters, w.port ≠ holder))

/-- R58, R60, R25: the arbiter runs while the engine is IDLE and an entry is dispatchable; it chooses the
highest effective priority, the earliest created among equals; a dispatch that finds its reference
FAULTED completes the entry with REF_FAULT and the arbiter runs again; any other starts a conversion. -/
def Obligations.ArbiterChoosesAndDispatches : Prop :=
  (∀ s : State, s.engine.conversion ≠ none → s.runArbiter = s) ∧
  (∀ s : State, (∀ e ∈ s.entries, s.dispatchable e = false) → s.runArbiter = s) ∧
  (∀ s : State, s.chosenEntry = none ↔ ∀ e ∈ s.entries, s.dispatchable e = false) ∧
  (∀ (s : State) (e : Entry), s.chosenEntry = some e →
    ∃ older younger, s.entries = older ++ e :: younger ∧ s.dispatchable e = true ∧
      (∀ f ∈ older, s.dispatchable f = true → s.effectivePriority f < s.effectivePriority e) ∧
      ∀ f ∈ younger, s.dispatchable f = true → s.effectivePriority f ≤ s.effectivePriority e) ∧
  ∀ (s : State) (e : Entry), s.engine.conversion = none → s.chosenEntry = some e →
    let record := s.channel e.channel
    let ref := record.settings.reference
    ((s.health ref).state ≠ .faulted → s.runArbiter = s.startConversion e) ∧
    ((s.health ref).state = .faulted →
      s.runArbiter = (s.completeEntry e
        { status := .refFault, ratio := none, ref := none, sens := none, reference := ref,
          fromCache := false, gate := e.gate, revision := record.revision,
          completedAt := s.hubTime }).runArbiter)

/-- R24, R26, R27, R61: a dispatch makes the entry IN_FLIGHT and starts the conversion with the reference
and revision of the record; a TIMEBASE one takes the cached count when it may be used and enters
SETTLE_SENS, any other enters SETTLE_REF; nothing else changes. -/
def Obligations.DispatchStartsConversion : Prop :=
  ∀ (s : State) (e : Entry),
    let record := s.channel e.channel
    let ref := record.settings.reference
    let limit := (s.refRecord ref).cacheAgeMs
    let started (selection : Selection) (c : Conversion) : State :=
      ((s.setEntries (s.entries.replace e { e with state := .inFlight })).setSelection
        selection).setConversion (some c)
    let usable (k : RefCache) : Prop :=
      (s.health ref).state = .valid ∧ (s.health ref).cache = some k ∧
        k.gateLength = record.settings.gateLength ∧ limit ≠ 0 ∧
        (s.hubTime - k.taken).toNat ≤ limit.toNat * 1000
    (∀ k, e.gate = .timebase → usable k →
      s.startConversion e = started (.sensor e.channel)
        { channel := e.channel, gate := e.gate, reference := ref, revision := record.revision,
          fromCache := true, refCount := some { count := k.count, time := k.gateLength.setWidth 32 }
          phase := .settle (s.hubTime + record.settings.settle.setWidth 32) }) ∧
    (e.gate = .external ∨ (∀ k, ¬usable k) →
      s.startConversion e = started (.reference ref)
        { channel := e.channel, gate := e.gate, reference := ref, revision := record.revision,
          fromCache := false, refCount := none
          phase := .settle (s.hubTime + (s.refRecord ref).settle.setWidth 32) })

/-- R42, R65, R86, R92, R78: an entry that completes publishes its outcome, whose sequence number rises by
one; the published record is handed to the watches of its channel (PublicationEvaluatesWatches); each
waiter's port gets one record, at the tail, in order of joining, with the published fields; a schedule's run
count advances with each of its records; the entry leaves the queue. -/
def Obligations.CompletionPublishesAndFansOut : Prop :=
  ∀ (s : State) (e : Entry) (o : Outcome),
    let t := s.completeEntry e o
    let seq := (s.result e.channel).seq + 1
    t.result e.channel = { seq := seq, outcome := some o } ∧
    (∀ c, c ≠ e.channel → t.result c = s.result c) ∧
    (∀ p, t.cq p = s.cq p ++ (e.waiters.filter fun w => decide (w.port = p)).map fun w =>
      .request w.origin e.channel e.gate (.published seq o) s.hubTime) ∧
    (∀ i, t.schedule i = (s.schedule i).map fun x =>
      { x with runCount := x.runCount +
          BitVec.ofNat 32 (e.waiters.countP fun w => decide (w.origin = .schedule i)) }) ∧
    t.watch = ((s.publish e.channel o).evaluateWatches e.channel o).watch ∧
    t.entries = s.entries.erase e ∧ t.queue.arrivals = s.queue.arrivals ∧
    t.selection = s.selection ∧ t.config = s.config ∧ t.hubTime = s.hubTime ∧ t.engine = s.engine ∧
    t.leases = s.leases ∧ t.ports = s.ports ∧ t.inReset = s.inReset ∧ t.pending = s.pending

/-- CANCEL (R62, R63): the checks in order; the waiter with the tag leaves its entry with no completion,
an entry left empty leaves the queue, and the conversion of an IN_FLIGHT one is aborted, where the
discarded edge counter reads 0 (log 18, the model's inference); the case is reported. -/
def Obligations.CancelRemovesWaiter : Prop :=
  ∀ (s : State) (p : PortId) (t : Transaction) (tag target : Half), s.Serves p t tag (.cancel target) →
    let u := s.taken p t
    let gone : Waiter → Bool := fun w => decide (w.port = p) && decide (w.origin = .direct target)
    let left (e : Entry) : Entry := { e with waiters := e.waiters.filter fun w => !gone w }
    let removed := u.setEntries ((s.entries.map left).filter fun e => !e.waiters.isEmpty)
    let stopped := ((removed.setSelection .none).setConversion none).setEdgeCounter 0
    let found := s.entries.find? fun e => e.waiters.any gone
    (target = 0 → exec (.cancel p tag target) s = .next (u.answered p tag (.cancel target) .badParam [])) ∧
    (target ≠ 0 → found = none →
      exec (.cancel p tag target) s = .next (u.answered p tag (.cancel target) .notFound [])) ∧
    ∀ e, target ≠ 0 → found = some e →
      ((∀ f ∈ s.entries, f.state = .inFlight → (left f).waiters ≠ []) →
        exec (.cancel p tag target) s = .next
          (removed.runArbiter.answered p tag (.cancel target) .done
            [if (left e).waiters ≠ [] then 0 else if e.state = .pending then 1 else 2,
             BitVec.ofNat 8 (removed.freeCredits p)])) ∧
      ((∃ f ∈ s.entries, f.state = .inFlight ∧ (left f).waiters = []) →
        exec (.cancel p tag target) s = .next
          (stopped.runArbiter.answered p tag (.cancel target) .done
            [if (left e).waiters ≠ [] then 0 else if e.state = .pending then 1 else 2,
             BitVec.ofNat 8 (removed.freeCredits p)]))

/-! ## Schedules (chapter 4) -/

/-- SCHED_ADD (R71): the checks in order; the free place with the lowest id takes an ACTIVE schedule due
one period from now. -/
def Obligations.SchedAddTakesLowestFreePlace : Prop :=
  ∀ (s : State) (p : PortId) (t : Transaction) (tag : Half) (channel gate priority : Byte)
    (period : Word),
    let c := Command.schedAdd channel gate priority period
    s.Serves p t tag c →
    let u := s.taken p t
    let run := exec (.schedAdd p tag channel gate priority period) s
    let inTerm : Prop := 10 ≤ period.toNat ∧ period.toNat ≤ 600000
    (numbered 12 channel = none ∨ gateOf gate = none ∨ numbered 4 priority = none ∨ ¬inTerm →
      run = .next (u.answered p tag c .badParam [])) ∧
    ∀ ch g n, numbered 12 channel = some ch → gateOf gate = some g → numbered 4 priority = some n →
      inTerm →
      (s.usable ch = false → run = .next (u.answered p tag c .unusable [])) ∧
      (s.usable ch = true → (∀ i, s.schedule i ≠ none) →
        run = .next (u.answered p tag c .tableFull [])) ∧
      ∀ i, s.usable ch = true → s.schedule i = none → (∀ j, j < i → s.schedule j ≠ none) →
        let due := s.hubTime + BitVec.ofNat 32 (period.toNat * 1000)
        run = .next
          ((u.setSchedule i (some
            { owner := p, channel := ch, gate := g, priority := n, periodMs := period,
              state := .active due, missCount := 0, runCount := 0, lastMiss := .none })).answered p tag c
            .done ([BitVec.ofNat 8 i.val] ++ be32 due))

/-- SCHED_DELETE, SCHED_PAUSE and SCHED_RESUME (R72 to R74): the shared checks in order; deletion frees
the place and takes the schedule's waiter out of the queue with no completion; pausing drops the due
time; resuming sets it one period from now. The last part is R72's indication: 0 NO_WAITER, 2
CONVERSION_ABORTED, 1 WAITER_REMOVED. -/
def Obligations.SchedDeletePauseResume : Prop :=
  ∀ (s : State) (p : PortId) (t : Transaction) (tag : Half) (b : Byte),
    let u := s.taken p t
    let checks (c : Command) (run : Host.Outcome State Fault Refusal) : Prop :=
      (numbered 8 b = none → run = .next (u.answered p tag c .badParam [])) ∧
      (∀ i, numbered 8 b = some i → s.schedule i = none →
        run = .next (u.answered p tag c .notFound [])) ∧
      ∀ i x, numbered 8 b = some i → s.schedule i = some x → x.owner ≠ p →
        run = .next (u.answered p tag c .notHolder [])
    (s.Serves p t tag (.schedDelete b) →
      checks (.schedDelete b) (exec (.schedDelete p tag b) s) ∧
      ∀ i x, numbered 8 b = some i → s.schedule i = some x → x.owner = p →
        exec (.schedDelete p tag b) s = .next
          (((u.removeWaiters fun w => decide (w.origin = .schedule i)).setSchedule i
            none).runArbiter.answered p tag (.schedDelete b) .done
            ([s.deleteIndication i] ++ be16 x.missCount ++ be32 x.runCount))) ∧
    (s.Serves p t tag (.schedPause b) →
      checks (.schedPause b) (exec (.schedPause p tag b) s) ∧
      ∀ i x, numbered 8 b = some i → s.schedule i = some x → x.owner = p →
        (∀ due, x.state = .active due → exec (.schedPause p tag b) s = .next
          ((u.setSchedule i (some { x with state := .paused })).answered p tag (.schedPause b) .done
            [])) ∧
        (x.state = .paused →
          exec (.schedPause p tag b) s = .next (u.answered p tag (.schedPause b) .wrongState []))) ∧
    (s.Serves p t tag (.schedResume b) →
      checks (.schedResume b) (exec (.schedResume p tag b) s) ∧
      ∀ i x, numbered 8 b = some i → s.schedule i = some x → x.owner = p →
        (x.state = .paused →
          let due := s.hubTime + BitVec.ofNat 32 (x.periodMs.toNat * 1000)
          exec (.schedResume p tag b) s = .next
            ((u.setSchedule i (some { x with state := .active due })).answered p tag (.schedResume b) .done
              (be32 due))) ∧
        ∀ due, x.state = .active due →
          exec (.schedResume p tag b) s = .next (u.answered p tag (.schedResume b) .wrongState [])) ∧
    ∀ i : ScheduleId,
      let waits (e : Entry) : Bool := e.waiters.any fun w => decide (w.origin = .schedule i)
      ((∀ e ∈ s.entries, waits e = false) → s.deleteIndication i = 0) ∧
      ∀ e, s.entries.find? waits = some e →
        let last : Prop := e.state = .inFlight ∧ ∀ w ∈ e.waiters, w.origin = .schedule i
        (last → s.deleteIndication i = 2) ∧ (¬last → s.deleteIndication i = 1)

/-- SCHEDULE_DUE (R75, R76, R55): at a reached due time the due time advances by one period, and the first
condition that holds counts a miss with its cause; with none, the request joins or creates an entry. -/
def Obligations.ScheduleDueInjectsOrMisses : Prop :=
  ∀ (s : State) (i : ScheduleId),
    (∀ x due, s.schedule i = some x → x.state = .active due → reached s.hubTime due = true →
      let advanced := { x with state := .active (due + BitVec.ofNat 32 (x.periodMs.toNat * 1000)) }
      let missed (cause : MissCause) : Prop :=
        exec (.scheduleDue i) s = .next (s.setSchedule i (some { advanced with
          missCount := if x.missCount = 65535 then 65535 else x.missCount + 1, lastMiss := cause }))
      let waiting := s.entries.any fun e => e.waiters.any fun w => decide (w.origin = .schedule i)
      let full := s.pendingWithKey x.channel x.gate = none ∧ 24 ≤ s.entries.length
      (waiting = true → missed .waiting) ∧
      (waiting = false → s.usable x.channel = false → missed .unusable) ∧
      (waiting = false → s.usable x.channel = true → s.freeCredits x.owner = 0 → missed .noCredit) ∧
      (waiting = false → s.usable x.channel = true → s.freeCredits x.owner ≠ 0 → full →
        missed .queueFull) ∧
      (waiting = false → s.usable x.channel = true → s.freeCredits x.owner ≠ 0 → ¬full →
        exec (.scheduleDue i) s = .next
          ((s.setSchedule i (some advanced)).enqueue x.channel x.gate
            { port := x.owner, origin := .schedule i, priority := x.priority }).runArbiter)) ∧
    ((∀ x due, s.schedule i = some x → x.state = .active due → reached s.hubTime due = false) →
      exec (.scheduleDue i) s = .next s)

/-! ## Completions, watches and notices (chapters 5 and 6) -/

/-- FETCH (R95): the head record leaves the queue when the command is taken and is reported with the
records left and the free credits; an empty queue is answered EMPTY. -/
def Obligations.FetchRemovesHead : Prop :=
  ∀ (s : State) (p : PortId) (t : Transaction) (tag : Half), s.Serves p t tag .fetch →
    let u := s.taken p t
    (s.cq p = [] → exec (.fetch p tag) s =
      .next (u.answered p tag .fetch .empty [BitVec.ofNat 8 (s.freeCredits p)])) ∧
    ∀ r rest, s.cq p = r :: rest →
      exec (.fetch p tag) s = .next ((u.setCq p rest).answered p tag .fetch .done
        (r.bytes ++ [BitVec.ofNat 8 rest.length, BitVec.ofNat 8 ((u.setCq p rest).freeCredits p)])) ∧
      (u.setCq p rest).holdings p + 1 = s.holdings p

/-- WATCH_SET, WATCH_CLEAR and ACK_NOTICE (R103, R104, R115): the checks in order; the slot set or freed,
its notice removed, every generation kept; an acknowledgement removes the notice only under its present
generation. -/
def Obligations.WatchCommandsActOnSlotAndNotice : Prop :=
  ∀ (s : State) (p : PortId) (t : Transaction) (tag : Half),
    let u := s.taken p t
    let w := s.portWatch p
    let without (source : NoticeSource) : List Notice :=
      w.notices.filter fun n => decide (n.source ≠ source)
    let noticed (source : NoticeSource) : Byte :=
      if w.notices.any (fun n => decide (n.source = source)) then 1 else 0
    (∀ slot channel low high hyst notify priority,
      let c := Command.watchSet slot channel low high hyst notify priority
      s.Serves p t tag c →
      let run := exec (.watchSet p tag slot channel low high hyst notify priority) s
      let bounds : Prop := low.toNat ≤ high.toNat ∧ 2 * hyst.toNat ≤ high.toNat - low.toNat
      (numbered 8 slot = none ∨ numbered 12 channel = none ∨ numbered 4 priority = none ∨
          notifyOf notify = none ∨ ¬bounds → run = .next (u.answered p tag c .badParam [])) ∧
      ∀ i ch n set, numbered 8 slot = some i → numbered 12 channel = some ch →
        numbered 4 priority = some n → notifyOf notify = some set → bounds →
        run = .next ((u.setPortWatch p
          { w with
            slots := w.slots.write i (some
              { channel := ch, low := low, high := high, hyst := hyst, notify := set, priority := n,
                zone := .unknown })
            notices := without (.slot i) }).answered p tag c .done
          [if (w.slots.read i).isSome then 1 else 0, noticed (.slot i)])) ∧
    (∀ slot, s.Serves p t tag (.watchClear slot) →
      (numbered 8 slot = none →
        exec (.watchClear p tag slot) s = .next (u.answered p tag (.watchClear slot) .badParam [])) ∧
      (∀ i, numbered 8 slot = some i → w.slots.read i = none →
        exec (.watchClear p tag slot) s = .next (u.answered p tag (.watchClear slot) .notFound [])) ∧
      ∀ i, numbered 8 slot = some i → w.slots.read i ≠ none →
        exec (.watchClear p tag slot) s = .next ((u.setPortWatch p
          { w with slots := w.slots.write i none, notices := without (.slot i) }).answered p tag
          (.watchClear slot) .done [noticed (.slot i)])) ∧
    ∀ b generation, s.Serves p t tag (.ackNotice b generation) →
      let c := Command.ackNotice b generation
      let run := exec (.ackNotice p tag b generation) s
      (sourceOf b = none → run = .next (u.answered p tag c .badParam [])) ∧
      (∀ source, sourceOf b = some source → (∀ n ∈ w.notices, n.source ≠ source) →
        run = .next (u.answered p tag c .notFound [])) ∧
      ∀ source n, sourceOf b = some source → w.notices.find? (fun n => decide (n.source = source)) = some n →
        (n.generation = generation → run = .next
          ((u.setPortWatch p { w with notices := without source }).answered p tag c .done
            [BitVec.ofNat 8 (without source).length])) ∧
        (n.generation ≠ generation → run = .next
          (u.answered p tag c .stale (be16 n.generation ++ [n.head])))

/-- R106: the zone a watch moves to, for a result of status OK with ratio Q and for any other. -/
def Obligations.ZonesFollowTheTable : Prop :=
  (∀ (w : Watch) (q : Word),
    let low := w.low.toNat
    let high := w.high.toNat
    let y := w.hyst.toNat
    (w.zone = .unknown ∨ w.zone = .fault ∨ w.zone = .inside →
      (q.toNat < low → w.nextZone (some q) = .below) ∧
      (low ≤ q.toNat → high < q.toNat → w.nextZone (some q) = .above) ∧
      (low ≤ q.toNat → q.toNat ≤ high → w.nextZone (some q) = .inside)) ∧
    (w.zone = .below →
      (high < q.toNat → w.nextZone (some q) = .above) ∧
      (q.toNat ≤ high → low + y ≤ q.toNat → w.nextZone (some q) = .inside) ∧
      (q.toNat ≤ high → q.toNat < low + y → w.nextZone (some q) = .below)) ∧
    (w.zone = .above →
      (q.toNat < low → w.nextZone (some q) = .below) ∧
      (low ≤ q.toNat → q.toNat ≤ high - y → w.nextZone (some q) = .inside) ∧
      (low ≤ q.toNat → high - y < q.toNat → w.nextZone (some q) = .above))) ∧
  (∀ w : Watch, w.nextZone none = .fault) ∧
  (∀ o : Outcome, (o.status = .ok → o.judged = o.ratio) ∧ (o.status ≠ .ok → o.judged = none)) ∧
  ∀ (w : Watch) (r : Option Word), w.nextZone r ≠ .unknown

/-- R86, R105: the completion of an entry leaves the watches as the evaluation event for its publication
does. R107: that event moves the zone of every watch on the channel, in every port, and of no other; the
source of a slot whose change of zone is in the notify set is raised once, and of every other slot neither
generation nor notice changes. -/
def Obligations.PublicationEvaluatesWatches : Prop :=
  (∀ (s : State) (e : Entry) (o : Outcome),
    (s.completeEntry e o).watch = ((s.publish e.channel o).evaluateWatches e.channel o).watch) ∧
  ∀ (s : State) (c : ChannelId) (o : Outcome) (p : PortId) (i : SlotId),
    let w := s.portWatch p
    let v := (s.evaluateWatches c o).portWatch p
    let source := NoticeSource.slot i
    let own (l : List Notice) : List Notice := l.filter fun n => decide (n.source = source)
    let generation := w.generations.read source.index
    let untouched : Prop :=
      v.generations.read source.index = generation ∧ own v.notices = own w.notices
    (w.slots.read i = none → v.slots.read i = none ∧ untouched) ∧
    (∀ x, w.slots.read i = some x → x.channel ≠ c → v.slots.read i = some x ∧ untouched) ∧
    ∀ x, w.slots.read i = some x → x.channel = c →
      let zone := x.nextZone o.judged
      v.slots.read i = some { x with zone := zone } ∧
      (zone = x.zone ∨ x.notify.notified zone = none → untouched) ∧
      ∀ z, zone ≠ x.zone → x.notify.notified zone = some z →
        v.generations.read source.index = generation + 1 ∧
        (own w.notices = [] → own v.notices =
          [{ content := .watch i z o.judged (s.result c).seq, changes := 1, generation := generation + 1,
             firstRaised := s.hubTime, priority := x.priority }]) ∧
        (own w.notices ≠ [] → own v.notices = (own w.notices).map fun n =>
          { n with content := .watch i z o.judged (s.result c).seq
                   changes := if n.changes = 255 then 255 else n.changes + 1
                   generation := generation + 1 })

/-- R110 to R113: a raising advances its source's generation; it creates a notice, placed after every
notice of equal or higher priority, or updates the one that stands, where it stands; a group notice
gathers its flags. -/
def Obligations.RaisingCreatesOrUpdates : Prop :=
  (∀ (w : PortWatch) (content : NoticeContent) (priority : Priority) (now : Time),
    let v := w.raise content priority now
    let k := content.source.index
    let generation := w.generations.read k + 1
    let mine (n : Notice) : Prop := n.source = content.source
    v.slots = w.slots ∧ v.generations.read k = generation ∧
    (∀ j, j ≠ k → v.generations.read j = w.generations.read j) ∧
    ((∀ n ∈ w.notices, ¬mine n) → ∃ before after, w.notices = before ++ after ∧
      v.notices = before ++
        { content := content, changes := 1, generation := generation, firstRaised := now,
          priority := priority } :: after ∧
      (∀ n ∈ before, priority ≤ n.priority) ∧ (w.Sound → ∀ n ∈ after, n.priority < priority)) ∧
    ((∃ n ∈ w.notices, mine n) → v.notices = w.notices.map fun n =>
      if n.source = content.source then
        { n with content := n.content.updatedBy content
                 changes := if n.changes = 255 then 255 else n.changes + 1
                 generation := generation }
      else n)) ∧
  (∀ (old : NoticeContent) i z ratio seq,
    old.updatedBy (.watch i z ratio seq) = .watch i z ratio seq) ∧
  ∀ g a b a' b', (NoticeContent.group g a b).updatedBy (.group g a' b') = .group g (a || a') (b || b')

/-! ## Leases and configuration (chapter 7) -/

/-- LEASE (R124, R130): the checks in order; a FREE group is granted at once; behind another holder the
request joins the tail, takes a credit, and the holder's RELEASE_REQUESTED is raised. -/
def Obligations.LeaseGrantedOrQueued : Prop :=
  ∀ (s : State) (p : PortId) (t : Transaction) (tag : Half) (group kind : Byte) (term : Word),
    let c := Command.lease group kind term
    s.Serves p t tag c →
    let u := s.taken p t
    let run := exec (.lease p tag group kind term) s
    let refused (status : Status) : Prop := run = .next (u.answered p tag c status [])
    let inTerm : Prop := 10 ≤ term.toNat ∧ term.toNat ≤ 600000
    let expiry := s.hubTime + BitVec.ofNat 32 (term.toNat * 1000)
    (numbered 3 group = none ∨ kindOf kind = none ∨ ¬inTerm → refused .badParam) ∧
    ∀ g k, numbered 3 group = some g → kindOf kind = some k → inTerm →
      let waits : Prop := ∃ q ∈ (s.group g).waiting, q.port = p
      (s.holder g = some p → refused .heldAlready) ∧
      (s.holder g ≠ some p → waits → refused .duplicate) ∧
      (s.holder g ≠ some p → ¬waits → s.tagInUse p tag = true → refused .tagInUse) ∧
      (¬waits → s.tagInUse p tag = false → (s.group g).lease = .free →
        run = .next ((u.setGroup g { s.group g with lease := .held p k expiry }).answered p tag c .granted
          ([k.code] ++ be32 expiry))) ∧
      ∀ h k' e', h ≠ p → ¬waits → s.tagInUse p tag = false → (s.group g).lease = .held h k' e' →
        (s.freeCredits p = 0 → refused .noCredit) ∧
        (s.freeCredits p ≠ 0 →
          run = .next (((u.setGroup g { s.group g with
              waiting := (s.group g).waiting ++
                [{ port := p, tag := tag, kind := k, termMs := term }] }).setPortWatch h
              ((s.portWatch h).raise (.group g true false) 3 s.hubTime)).answered p tag c .queued
            [BitVec.ofNat 8 ((s.group g).waiting.length + 1), BitVec.ofNat 8 (s.freeCredits p - 1)]))

/-- WITHDRAW and RENEW (R125, R126): the waiting request with the tag leaves its list; the holder of an
uncontended group takes a new kind and expiry. Notices and staging stay. -/
def Obligations.WithdrawAndRenew : Prop :=
  ∀ (s : State) (p : PortId) (t : Transaction) (tag : Half),
    let u := s.taken p t
    (∀ target, s.Serves p t tag (.withdraw target) →
      let c := Command.withdraw target
      let run := exec (.withdraw p tag target) s
      let mine (q : LeaseRequest) : Prop := q.port = p ∧ q.tag = target
      (target = 0 → run = .next (u.answered p tag c .badParam [])) ∧
      (target ≠ 0 → (∀ g, ∀ q ∈ (s.group g).waiting, ¬mine q) →
        run = .next (u.answered p tag c .notFound [])) ∧
      ∀ g, target ≠ 0 → (∃ q ∈ (s.group g).waiting, mine q) →
        (∀ h, h < g → ∀ q ∈ (s.group h).waiting, ¬mine q) →
        let left := u.setGroup g { s.group g with
          waiting := (s.group g).waiting.filter fun q => !(decide (q.port = p) && decide (q.tag = target)) }
        run = .next (left.answered p tag c .done
          [BitVec.ofNat 8 g.val, BitVec.ofNat 8 (left.freeCredits p)])) ∧
    ∀ group kind term, s.Serves p t tag (.renew group kind term) →
      let c := Command.renew group kind term
      let run := exec (.renew p tag group kind term) s
      let inTerm : Prop := 10 ≤ term.toNat ∧ term.toNat ≤ 600000
      let expiry := s.hubTime + BitVec.ofNat 32 (term.toNat * 1000)
      (numbered 3 group = none ∨ kindOf kind = none ∨ ¬inTerm →
        run = .next (u.answered p tag c .badParam [])) ∧
      ∀ g k, numbered 3 group = some g → kindOf kind = some k → inTerm →
        (s.holder g ≠ some p → run = .next (u.answered p tag c .notHolder [])) ∧
        (s.holder g = some p → (s.group g).waiting ≠ [] →
          run = .next (u.answered p tag c .contended [])) ∧
        (s.holder g = some p → (s.group g).waiting = [] →
          run = .next ((u.setGroup g { s.group g with lease := .held p k expiry }).runArbiter.answered p
            tag c .done (be32 expiry)))

/-- RELEASE and LEASE_EXPIRY (R127, R128, R131): staging discarded, REVOKED raised at an expiry only, the
lease passed on, and the arbiter run. -/
def Obligations.LeaseEndsByReleaseOrExpiry : Prop :=
  (∀ (s : State) (p : PortId) (t : Transaction) (tag : Half) (group : Byte),
    s.Serves p t tag (.release group) →
    let u := s.taken p t
    let c := Command.release group
    let run := exec (.release p tag group) s
    (numbered 3 group = none → run = .next (u.answered p tag c .badParam [])) ∧
    (∀ g, numbered 3 group = some g → s.holder g ≠ some p →
      run = .next (u.answered p tag c .notHolder [])) ∧
    ∀ g, numbered 3 group = some g → s.holder g = some p →
      run = .next (((u.discardStaging p g).passOn g).runArbiter.answered p tag c .done
        [BitVec.ofNat 8 (s.stagedCount g),
         if s.holdsAll p && s.leases.hubStaging.nonempty then 1 else 0,
         match (s.group g).waiting with
          | [] => 0xFF
          | q :: _ => BitVec.ofNat 8 q.port.val])) ∧
  ∀ (s : State) (g : GroupId),
    (∀ p k d, (s.group g).lease = .held p k d → reached s.hubTime d = true →
      let discarded := s.discardStaging p g
      exec (.leaseExpiry g) s = .next
        ((discarded.setPortWatch p
          ((s.portWatch p).raise (.group g false true) 3 s.hubTime)).passOn g).runArbiter) ∧
    ((∀ p k d, (s.group g).lease = .held p k d → reached s.hubTime d = false) →
      exec (.leaseExpiry g) s = .next s)

/-- R127, R136: what is discarded with a holding. R129, R130: the head of the wait list becomes the holder,
with its record and, when another waits, RELEASE_REQUESTED; an empty list leaves the group FREE. -/
def Obligations.LeasePassesToHeadOfWaitList : Prop :=
  (∀ (s : State) (p : PortId) (g : GroupId),
    let d := s.discardStaging p g
    (∀ c, d.leases.staging.read c = if groupOf c = g then none else s.leases.staging.read c) ∧
    (s.holdsAll p = true → d.leases.hubStaging.nonempty = false) ∧
    (s.holdsAll p = false → d.leases.hubStaging = s.leases.hubStaging) ∧
    d = s.setLeases { s.leases with staging := d.leases.staging, hubStaging := d.leases.hubStaging }) ∧
  ∀ (s : State) (g : GroupId),
    ((s.group g).waiting = [] → s.passOn g = s.setGroup g { lease := .free, waiting := [] }) ∧
    ∀ q rest, (s.group g).waiting = q :: rest →
      let expiry := s.hubTime + BitVec.ofNat 32 (q.termMs.toNat * 1000)
      let granted := (s.setGroup g { lease := .held q.port q.kind expiry, waiting := rest }).setCq q.port
        (s.cq q.port ++ [.lease q.tag g q.kind expiry s.hubTime])
      (rest = [] → s.passOn g = granted) ∧
      (rest ≠ [] → s.passOn g = granted.setPortWatch q.port
        ((s.portWatch q.port).raise (.group g true false) 3 s.hubTime))

/-- STAGE_CHANNEL, STAGE_REFERENCE and STAGE_HUB (R137, R138, R187): the checks in order; each given field
replaces any staged value of it, the others stay; the staged record is reported. -/
def Obligations.StageCommandsMergeGivenFields : Prop :=
  ∀ (s : State) (p : PortId) (t : Transaction) (tag : Half),
    let u := s.taken p t
    (∀ ch mask en rf gl st ol sl,
      let c := Command.stageChannel ch mask en rf gl st ol sl
      s.Serves p t tag c →
      let run := exec (.stageChannel p tag ch mask en rf gl st ol sl) s
      let form := channelForm mask en rf gl st ol sl
      (numbered 12 ch = none ∨ form = none → run = .next (u.answered p tag c .badParam [])) ∧
      ∀ k given, numbered 12 ch = some k → form = some given →
        (s.holder (groupOf k) ≠ some p → run = .next (u.answered p tag c .notHolder [])) ∧
        (s.holder (groupOf k) = some p →
          let old := (s.leases.staging.read k).getD StagedChannel.blank
          let merged : StagedChannel :=
            { enabled := given.enabled.or old.enabled, reference := given.reference.or old.reference,
              gateLength := given.gateLength.or old.gateLength, settle := given.settle.or old.settle,
              openLimit := given.openLimit.or old.openLimit,
              shortLimit := given.shortLimit.or old.shortLimit }
          run = .next ((u.setStaging (s.leases.staging.write k (some merged))).answered p tag c .done
            (merged.bytes k)))) ∧
    (∀ b mask en st ca ho,
      let c := Command.stageReference b mask en st ca ho
      s.Serves p t tag c →
      let run := exec (.stageReference p tag b mask en st ca ho) s
      let form := referenceForm mask en st ca ho
      (refOf b = none ∨ form = none → run = .next (u.answered p tag c .badParam [])) ∧
      ∀ r given, refOf b = some r → form = some given →
        ((∃ g, s.holder g ≠ some p) → run = .next (u.answered p tag c .notHolder [])) ∧
        ((∀ g, s.holder g = some p) →
          let hub := s.leases.hubStaging
          let old := (hub.refs.read r).getD StagedRef.blank
          let merged : StagedRef :=
            { enabled := given.enabled.or old.enabled, settle := given.settle.or old.settle,
              cacheAgeMs := given.cacheAgeMs.or old.cacheAgeMs,
              holdOffMs := given.holdOffMs.or old.holdOffMs }
          run = .next ((u.setHubStaging { hub with refs := hub.refs.write r (some merged) }).answered p tag
            c .done (merged.bytes r)))) ∧
    ∀ mask age ext,
      let c := Command.stageHub mask age ext
      s.Serves p t tag c →
      let run := exec (.stageHub p tag mask age ext) s
      (hubForm mask age ext = none → run = .next (u.answered p tag c .badParam [])) ∧
      ∀ a e, hubForm mask age ext = some (a, e) →
        ((∃ g, s.holder g ≠ some p) → run = .next (u.answered p tag c .notHolder [])) ∧
        ((∀ g, s.holder g = some p) →
          let hub := s.leases.hubStaging
          let a' := a.or hub.ageStepMs
          let e' := e.or hub.extWaitMs
          run = .next ((u.setHubStaging { hub with ageStepMs := a', extWaitMs := e' }).answered p tag c
            .done (hubFormBytes a' e')))

/-- UNSTAGE (R139): a channel's staged record, or the whole hub staging buffer, is dropped. -/
def Obligations.UnstageDropsStagedEdits : Prop :=
  ∀ (s : State) (p : PortId) (t : Transaction) (tag : Half) (b : Byte), s.Serves p t tag (.unstage b) →
    let u := s.taken p t
    let run := exec (.unstage p tag b) s
    let refused (status : Status) : Prop := run = .next (u.answered p tag (.unstage b) status [])
    (b ≠ 0xFF → 12 ≤ b.toNat → refused .badParam) ∧
    (∀ c : ChannelId, b.toNat = c.val →
      (s.holder (groupOf c) ≠ some p → refused .notHolder) ∧
      (s.holder (groupOf c) = some p → s.leases.staging.read c = none → refused .notFound) ∧
      (s.holder (groupOf c) = some p → s.leases.staging.read c ≠ none →
        run = .next ((u.setStaging (s.leases.staging.write c none)).answered p tag (.unstage b) .done
          []))) ∧
    (b = 0xFF →
      ((∃ g, s.holder g ≠ some p) → refused .notHolder) ∧
      ((∀ g, s.holder g = some p) → s.leases.hubStaging.nonempty = false → refused .notFound) ∧
      ((∀ g, s.holder g = some p) → s.leases.hubStaging.nonempty = true →
        run = .next ((u.setHubStaging
          { refs := ⟨none, none⟩, ageStepMs := none, extWaitMs := none }).answered p tag (.unstage b)
          .done [])))

/-- COMMIT (R140): the checks in order, on the group's buffer or for HUB on all four; a REJECTED answer
names the lowest channel whose record would not be valid; a refused COMMIT changes nothing. The commit aborts
the conversion in flight exactly when it changes the record of its channel or the reference record recorded
at dispatch (R41, R142). The response gives the channels whose revision advanced, with the new revisions,
the references whose records changed, the abort, and the number of PENDING entries removed (R142, R188). -/
def Obligations.CommitCheckedInOrder : Prop :=
  (∀ (s : State) (scope : CommitScope),
    let v := s.applyCommit scope
    let advances (c : ChannelId) : Bool := decide ((v.channel c).revision ≠ (s.channel c).revision)
    (s.commitAborts scope = true ↔
      ∃ c, s.engine.conversion = some c ∧
        ((v.channel c.channel).settings ≠ (s.channel c.channel).settings ∨
          v.refRecord c.reference ≠ s.refRecord c.reference)) ∧
    ∀ t : State, ∃ mask : Half,
      (∀ k, mask.getLsbD k = true ↔ ∃ c : ChannelId, c.val = k ∧ advances c = true) ∧
      commitPayload s t scope = be16 mask ++
        ((everyIndex 12).filter advances).flatMap (fun c => be16 (v.channel c).revision) ++
        [(if v.refRecord .a ≠ s.refRecord .a then 1 else 0) +
            (if v.refRecord .b ≠ s.refRecord .b then 2 else 0),
         if s.commitAborts scope then 1 else 0,
         BitVec.ofNat 8
          (t.entries.countP fun e => decide (e.state = .pending) && !t.usable e.channel)]) ∧
  ∀ (s : State) (p : PortId) (t : Transaction) (tag : Half) (b : Byte), s.Serves p t tag (.commit b) →
    let u := s.taken p t
    let run := exec (.commit p tag b) s
    let c := Command.commit b
    (b ≠ 0xFF → 3 ≤ b.toNat → run = .next (u.answered p tag c .badParam [])) ∧
    ∀ scope : CommitScope, (scope = none ∧ b = 0xFF) ∨ (∃ g, scope = some g ∧ b.toNat = g.val) →
      let holds : Prop := ∀ g, scope = none ∨ scope = some g → s.holder g = some p
      (¬holds → run = .next (u.answered p tag c .notHolder [])) ∧
      (holds → s.somethingStaged scope = false → run = .next (u.answered p tag c .notFound [])) ∧
      (holds → s.somethingStaged scope = true → (s.tableAfter scope).valid = false →
        run = .next (u.answered p tag c .rejected
          (((s.tableAfter scope).lowestFailing.map fun ch => BitVec.ofNat 8 ch.val).toList))) ∧
      (holds → s.somethingStaged scope = true → (s.tableAfter scope).valid = true →
        let applied := u.applyCommit scope
        let aborted := if s.commitAborts scope then applied.abortInFlight else applied
        run = .next (aborted.removeDisabled.runArbiter.answered p tag c .done
          (commitPayload u aborted scope)))

/-- R141, R12, R40: the one step in which a commit applies. Staged fields of the covered buffers take the
place of the committed ones; a channel's revision advances by one exactly when its record changes or the
reference record it then names does; a changed reference record resets its reference's health; the covered
buffers are emptied; nothing else changes. -/
def Obligations.CommitAppliesStagedFields : Prop :=
  ∀ (s : State) (scope : CommitScope),
    let v := s.applyCommit scope
    let covered (c : ChannelId) : Prop := scope = none ∨ scope = some (groupOf c)
    (∀ c,
      (∀ x, covered c → s.leases.staging.read c = some x →
        (v.channel c).settings =
          { enabled := x.enabled.getD (s.channel c).settings.enabled
            reference := x.reference.getD (s.channel c).settings.reference
            gateLength := x.gateLength.getD (s.channel c).settings.gateLength
            settle := x.settle.getD (s.channel c).settings.settle
            openLimit := x.openLimit.getD (s.channel c).settings.openLimit
            shortLimit := x.shortLimit.getD (s.channel c).settings.shortLimit }) ∧
      (¬covered c ∨ s.leases.staging.read c = none →
        (v.channel c).settings = (s.channel c).settings) ∧
      (v.channel c).revision =
        (if (v.channel c).settings ≠ (s.channel c).settings ∨
            v.refRecord (v.channel c).settings.reference ≠ s.refRecord (v.channel c).settings.reference
          then (s.channel c).revision + 1 else (s.channel c).revision)) ∧
    (∀ r,
      (∀ x, scope = none → s.leases.hubStaging.refs.read r = some x →
        v.refRecord r =
          { enabled := x.enabled.getD (s.refRecord r).enabled
            settle := x.settle.getD (s.refRecord r).settle
            cacheAgeMs := x.cacheAgeMs.getD (s.refRecord r).cacheAgeMs
            holdOffMs := x.holdOffMs.getD (s.refRecord r).holdOffMs }) ∧
      (scope ≠ none ∨ s.leases.hubStaging.refs.read r = none → v.refRecord r = s.refRecord r) ∧
      v.health r = (if v.refRecord r = s.refRecord r then s.health r
        else { state := if (v.refRecord r).enabled then .unknown else .disabled, cache := none,
               cacheExpiry := none, holdOff := none })) ∧
    (scope = none →
      v.config.ageStepMs = s.leases.hubStaging.ageStepMs.getD s.config.ageStepMs ∧
      v.config.extWaitMs = s.leases.hubStaging.extWaitMs.getD s.config.extWaitMs ∧
      v.leases.hubStaging.nonempty = false) ∧
    (scope ≠ none →
      v.config.ageStepMs = s.config.ageStepMs ∧ v.config.extWaitMs = s.config.extWaitMs ∧
      v.leases.hubStaging = s.leases.hubStaging) ∧
    (∀ c, (covered c → v.leases.staging.read c = none) ∧
      (¬covered c → v.leases.staging.read c = s.leases.staging.read c)) ∧
    v.leases.groups = s.leases.groups ∧ v.engine.conversion = s.engine.conversion ∧
    v.engine.edgeCounter = s.engine.edgeCounter ∧
    v = ((s.setConfig v.config).setEngine v.engine).setLeases v.leases

/-- R142, R66, R67: after a commit applies, each waiter of an aborted conversion gets an ABORTED record;
then each waiter of each PENDING entry on a channel now unusable gets a DISABLED record, in creation order
and order of joining; those entries leave the queue and nothing is published. The edge counter an abort
discards reads 0 (log 18, the model's inference). -/
def Obligations.CommitAbortsAndDisables : Prop :=
  ∀ (s : State) (e : Entry), s.QueueSound →
    let records (e : Entry) (ending : RequestEnd) (p : PortId) : List Completion :=
      (e.waiters.filter fun w => decide (w.port = p)).map fun w =>
        .request w.origin e.channel e.gate ending s.hubTime
    let unusable (f : Entry) : Bool := decide (f.state = .pending) && !s.usable f.channel
    let disabled := s.entries.filter unusable
    (e ∈ s.entries → e.state = .inFlight →
      let v := s.abortInFlight.removeDisabled
      v.selection = .none ∧ v.engine = { s.engine with conversion := none, edgeCounter := 0 } ∧
      v.entries = (s.entries.erase e).filter (fun f => !unusable f) ∧
      v.queue.arrivals = s.queue.arrivals ∧ v.results = s.results ∧ v.watch = s.watch ∧
      ∀ p, v.cq p = s.cq p ++ records e .aborted p ++ disabled.flatMap fun f => records f .disabled p) ∧
    let v := s.removeDisabled
    v.selection = s.selection ∧ v.engine = s.engine ∧
    v.entries = s.entries.filter (fun f => !unusable f) ∧
    v.queue.arrivals = s.queue.arrivals ∧ v.results = s.results ∧ v.watch = s.watch ∧
    ∀ p, v.cq p = s.cq p ++ disabled.flatMap fun f => records f .disabled p

/-! ## The engine and the deadlines (chapters 1 and 2) -/

/-- SETTLE_END, GATE_CLOSE, STALL and PAIR_DEADLINE_EXPIRY (R27, R28, R29, R33, R35): what each does when
its deadline exists and is reached; otherwise nothing happens (log 3). -/
def Obligations.PhaseDeadlinesEndPhases : Prop :=
  ∀ s : State,
    (∀ c d, s.engine.conversion = some c → c.phase = .settle d → reached s.hubTime d = true →
      (c.gate = .timebase → exec .settleEnd s = .next ((s.setEdgeCounter 0).setConversion (some { c with
        phase := .count s.hubTime (s.hubTime + 2000)
          (s.hubTime + (s.channel c.channel).settings.gateLength.setWidth 32) }))) ∧
      (c.gate = .external → exec .settleEnd s = .next (s.setConversion (some { c with
        phase := .arm (s.hubTime + BitVec.ofNat 32 (s.config.extWaitMs.toNat * 1000)) })))) ∧
    (∀ c opened stallAt bound, s.engine.conversion = some c → c.phase = .count opened stallAt bound →
      (c.gate = .timebase → reached s.hubTime bound = true → exec .gateClose s = .next
        (s.endCount c .closed
          { count := s.engine.edgeCounter, time := (s.channel c.channel).settings.gateLength.setWidth 32 })) ∧
      (reached s.hubTime stallAt = true → exec .stall s = .next
        (s.endCount c .stalled { count := s.engine.edgeCounter, time := s.hubTime - opened }))) ∧
    (∀ c d, s.engine.conversion = some c →
      (c.phase = .arm d ∨ (c.gate = .external ∧ ∃ o st, c.phase = .count o st d)) →
      reached s.hubTime d = true → exec .pairDeadlineExpiry s = .next
        (s.finish c { status := .gateTimeout, ratio := none, ref := c.refCount, sens := none,
                      reference := c.reference, fromCache := c.fromCache && c.refCount.isSome,
                      gate := c.gate, revision := c.revision, completedAt := s.hubTime })) ∧
    ((∀ c d, s.engine.conversion = some c → c.phase = .settle d → reached s.hubTime d = false) →
      exec .settleEnd s = .next s) ∧
    ((∀ c o st d, s.engine.conversion = some c → c.phase = .count o st d → c.gate = .timebase →
        reached s.hubTime d = false) → exec .gateClose s = .next s) ∧
    ((∀ c o st d, s.engine.conversion = some c → c.phase = .count o st d →
        reached s.hubTime st = false) → exec .stall s = .next s) ∧
    ((∀ c d, s.engine.conversion = some c →
        (c.phase = .arm d ∨ (c.gate = .external ∧ ∃ o st, c.phase = .count o st d)) →
        reached s.hubTime d = false) → exec .pairDeadlineExpiry s = .next s)

/-- OSCILLATOR_EDGE and GATE_RISING_EDGE (R28, R30, R33, R34): an edge taken in an open gate is counted and
moves the stall deadline, or overflows; GATE opens an armed gate and closes an EXTERNAL one 50 µs or more
later; every other edge, in IDLE and in a settle phase among them, does nothing. -/
def Obligations.EdgesCountOpenAndClose : Prop :=
  ∀ s : State,
    (∀ c opened stallAt bound, s.engine.conversion = some c → c.phase = .count opened stallAt bound →
      (s.engine.edgeCounter ≠ 16777215 → exec .oscillatorEdge s = .next
        ((s.setEdgeCounter (s.engine.edgeCounter + 1)).setConversion (some { c with
          phase := .count opened (s.hubTime + 2000) bound }))) ∧
      (s.engine.edgeCounter = 16777215 → exec .oscillatorEdge s = .next
        (s.endCount c .overflowed { count := 16777215, time := s.hubTime - opened })) ∧
      (c.gate = .external → 50 ≤ (s.hubTime - opened).toNat → exec .gateRisingEdge s = .next
        (s.endCount c .closed { count := s.engine.edgeCounter, time := s.hubTime - opened })) ∧
      (c.gate = .timebase ∨ (s.hubTime - opened).toNat < 50 → exec .gateRisingEdge s = .next s)) ∧
    (∀ c pair, s.engine.conversion = some c → c.phase = .arm pair →
      exec .gateRisingEdge s = .next ((s.setEdgeCounter 0).setConversion (some { c with
        phase := .count s.hubTime (s.hubTime + 2000) pair }))) ∧
    ((∀ c o st d, s.engine.conversion = some c → c.phase ≠ .count o st d) →
      exec .oscillatorEdge s = .next s) ∧
    ((∀ c, s.engine.conversion = some c → ∃ d, c.phase = .settle d) →
      exec .gateRisingEdge s = .next s)

/-- R16, R31, R32, R36, R39, R42: the end of a count phase. A good reference count is kept (in the cache
too, under a TIMEBASE gate) and the sensor settle phase begins; a failed one records the fault and ends
the conversion REF_FAULT; a sensor count ends it with the outcome of R15; the end of a conversion stops
the engine (its edge counter then reads 0: log 18, the model's inference), completes the entry and runs the
arbiter. -/
def Obligations.CountPhaseJudged : Prop :=
  (∀ (s : State) (c : Conversion) (how : PhaseEnd) (m : Measured), c.refCount = none →
    let limit := (s.refRecord c.reference).cacheAgeMs
    let settling : Conversion := { c with
      refCount := some m
      phase := .settle (s.hubTime + (s.channel c.channel).settings.settle.setWidth 32) }
    let sensing (v : State) : State := (v.setSelection (.sensor c.channel)).setConversion (some settling)
    (how = .closed → m.count ≠ 0 → c.gate = .external → s.endCount c how m = sensing s) ∧
    (how = .closed → m.count ≠ 0 → c.gate = .timebase →
      s.endCount c how m = sensing (s.setHealth c.reference
        { s.health c.reference with
          state := .valid
          cache := some { count := m.count, gateLength := (s.channel c.channel).settings.gateLength,
                          taken := s.hubTime }
          cacheExpiry := if limit = 0 then none
            else some (s.hubTime + BitVec.ofNat 32 (limit.toNat * 1000) + 1) })) ∧
    (how ≠ .closed ∨ m.count = 0 →
      s.endCount c how m = (s.setHealth c.reference
        { state := .faulted, cache := none, cacheExpiry := none
          holdOff := some (s.hubTime +
            BitVec.ofNat 32 ((s.refRecord c.reference).holdOffMs.toNat * 1000)) }).finish c
        { status := .refFault, ratio := none, ref := some m, sens := none, reference := c.reference,
          fromCache := c.fromCache, gate := c.gate, revision := c.revision,
          completedAt := s.hubTime })) ∧
  (∀ (s : State) (c : Conversion) (how : PhaseEnd) (ref sens : Measured), c.refCount = some ref →
    let verdict := classify (s.channel c.channel).settings how ref sens
    s.endCount c how sens = s.finish c
      { status := verdict.1, ratio := verdict.2, ref := some ref, sens := some sens,
        reference := c.reference, fromCache := c.fromCache, gate := c.gate, revision := c.revision,
        completedAt := s.hubTime }) ∧
  ∀ (s : State) (c : Conversion) (o : Outcome) (e : Entry), s.inFlightEntry = some e →
    let stopped := ((s.setSelection .none).setConversion none).setEdgeCounter 0
    s.finish c o = (stopped.completeEntry e o).runArbiter

/-- R15, with Q of R13: the first of SHORT, OPEN, OVERRANGE and OK that applies. Where Q decides, the
reference gate time is not 0 (R13: "the divisor is never zero"). -/
def Obligations.SensorCountClassified : Prop :=
  ∀ (limits : ChannelSettings) (how : PhaseEnd) (ref sens : Measured),
    let q := ref.count.toNat * sens.time.toNat * 65536 / (sens.count.toNat * ref.time.toNat)
    let short : Prop := how = .overflowed ∨ limits.shortLimit.toNat ≤ sens.count.toNat
    let isOpen : Prop :=
      how = .stalled ∨ sens.count.toNat = 0 ∨ sens.count.toNat < limits.openLimit.toNat
    (short → classify limits how ref sens = (.short, none)) ∧
    (¬short → isOpen → classify limits how ref sens = (.open_, none)) ∧
    (¬short → ¬isOpen → ref.time ≠ 0 → 4294967296 ≤ q → classify limits how ref sens = (.overrange, none)) ∧
    (¬short → ¬isOpen → ref.time ≠ 0 → q < 4294967296 →
      ∃ ratio : Word, ratio.toNat = q ∧ classify limits how ref sens = (.ok, some ratio))

/-- R56: the effective priority, its aging term and its cap; AGING_CAP_EXPIRY; the manual's examples. -/
def Obligations.EffectivePriorityAges : Prop :=
  (∀ (e : Entry) (ageStepMs : Half) (now : Time),
    let waiting := if e.agingDeadline = none then 2147483647 else (now - e.created).toNat
    let aging := if ageStepMs = 0 then 0 else waiting / (ageStepMs.toNat * 1000)
    (∀ top : Nat, (∀ w ∈ e.waiters, w.priority.val ≤ top) → (∃ w ∈ e.waiters, w.priority.val = top) →
      e.effectivePriority ageStepMs now = min 3 (top + aging))) ∧
  (∀ (s : State) (c : ChannelId) (g : GateSource) (w : Waiter),
    (s.newEntry c g w).created = s.hubTime ∧
    (s.newEntry c g w).agingDeadline = some (s.hubTime + 2147483647)) ∧
  (∀ (s : State) (k : Fin 24) (e : Entry) (d : Time), s.entries[k.val]? = some e →
    e.agingDeadline = some d → reached s.hubTime d = true →
    exec (.agingCapExpiry k) s = .next (s.setEntries (s.entries.set k.val { e with agingDeadline := none }))) ∧
  (∀ (s : State) (k : Fin 24),
    (∀ e d, s.entries[k.val]? = some e → e.agingDeadline = some d → reached s.hubTime d = false) →
    exec (.agingCapExpiry k) s = .next s) ∧
  let waited (priority : Priority) (now : Time) : Nat :=
    ({ channel := 0, gate := .timebase, state := .pending, arrival := 0, created := 0,
       agingDeadline := some 2147483647,
       waiters := [{ port := 0, origin := .direct 1, priority := priority }] } :
      Entry).effectivePriority 500 now
  waited 0 499999 = 0 ∧ waited 0 500000 = 1 ∧ waited 1 1250000 = 3 ∧ waited 2 1600000 = 3 ∧
    waited 3 0 = 3

/-- HUB_TIME_ADVANCE (R21, R189): one microsecond, wrapping; none in hub reset. HOLD_OFF_EXPIRY,
CACHE_EXPIRY, BIND_WINDOW_EXPIRY and SILENCE_EXPIRY (R39, R38, R148, R152): what each does when its
deadline exists and is reached; otherwise nothing happens (log 3). -/
def Obligations.TickAndDeadlineExpiries : Prop :=
  ∀ s : State,
    (s.inReset = false → exec .hubTimeAdvance s = .next (s.setHubTime (s.hubTime + 1))) ∧
    (s.inReset = true → exec .hubTimeAdvance s = .next s) ∧
    (∀ r d, (s.health r).holdOff = some d → reached s.hubTime d = true →
      exec (.holdOffExpiry r) s =
        .next (s.setHealth r { s.health r with state := .unknown, holdOff := none })) ∧
    (∀ r, (∀ d, (s.health r).holdOff = some d → reached s.hubTime d = false) →
      exec (.holdOffExpiry r) s = .next s) ∧
    (∀ r d, (s.health r).cacheExpiry = some d → reached s.hubTime d = true →
      exec (.cacheExpiry r) s =
        .next (s.setHealth r { s.health r with cache := none, cacheExpiry := none })) ∧
    (∀ r, (∀ d, (s.health r).cacheExpiry = some d → reached s.hubTime d = false) →
      exec (.cacheExpiry r) s = .next s) ∧
    (∀ p client d, (s.port p).state = .binding client d → reached s.hubTime d = true →
      exec (.bindWindowExpiry p) s = .next (s.setPort p { s.port p with state := .linked })) ∧
    (∀ p, (∀ client d, (s.port p).state = .binding client d → reached s.hubTime d = false) →
      exec (.bindWindowExpiry p) s = .next s) ∧
    (∀ p a d, (s.port p).state = .attached a → a.silenceDeadline = some d →
      reached s.hubTime d = true →
      exec (.silenceExpiry p) s =
        .next (s.tearDown p fun c => { c with state := .linked, cause := .silence })) ∧
    ∀ p, (∀ a d, (s.port p).state = .attached a → a.silenceDeadline = some d →
        reached s.hubTime d = false) → exec (.silenceExpiry p) s = .next s

/-! ## What every step keeps -/

/-- R9: the committed channel table is valid at every moment. -/
def Obligations.StepKeepsConfigurationValid : Prop :=
  ∀ s t : State, s.ConfigSound → step s = .next t → t.ConfigSound

/-- R189: in hub reset every block keeps its reset values. R93, R82, R119, R133: a port that is not
ATTACHED holds nothing in any block. -/
def Obligations.StepKeepsUnattachedPortsEmpty : Prop :=
  ∀ s t : State, s.ResetSound → s.AccountsSound → step s = .next t → t.ResetSound ∧ t.AccountsSound

/-- R47: the bounds of the request queue; the first clause of each pair is the state after reset. -/
def Obligations.QueueBoundsHold : Prop :=
  State.reset.QueueSound ∧
  (∀ s t : State, s.QueueSound → step s = .next t → t.QueueSound) ∧
  ∀ (s : State) (c : ChannelId) (g : GateSource), s.QueueSound →
    s.entries.countP (fun e => decide (e.channel = c ∧ e.gate = g)) ≤ 2

/-- R1, R58: the network selected is the one the engine's phase needs; while the engine is IDLE no entry is
dispatchable once an event has been taken, and the edge counter reads 0 (R23; log 18, the model's
inference). -/
def Obligations.StepKeepsEngineAndArbiterInStep : Prop :=
  (∀ s t : State, s.SelectionSound → s.ArbiterSound → step s = .next t →
    t.SelectionSound ∧ t.ArbiterSound) ∧
  ∀ s t : State, s.CounterSound → step s = .next t → t.CounterSound

/-- R93, R94: the completions, waiters and waiting lease requests of a port never exceed 16, and no two of
its outstanding items carry the same nonzero tag. -/
def Obligations.StepKeepsCreditsAndTags : Prop :=
  ∀ s t : State, s.QueueSound → s.CreditSound → s.TagsSound → step s = .next t →
    t.CreditSound ∧ t.TagsSound

/-- R108, R110, R113: one notice a source, in order of priority, each with its source's generation. -/
def Obligations.StepKeepsNoticeListsOrdered : Prop :=
  ∀ s t : State, s.NoticesSound → step s = .next t → t.NoticesSound

/-- R123, R136: at most two requests from distinct ports wait for a group, none of them its holder's;
staged edits exist only under a lease that allows them. -/
def Obligations.StepKeepsLeasesAndStaging : Prop :=
  ∀ s t : State, s.WaitListsSound → s.StagingSound → step s = .next t →
    t.WaitListsSound ∧ t.StagingSound

/-- R146, R165, R175: an OFFLINE port holds nothing of the link, and a transaction that began with no
response READY or INTERRUPTED shifts an empty IDLE or NOT_READY slot. R169: the backlog marker stands only
while no response is held, at every step but the fall of SELn behind a transaction whose end waits for HCLK
(R190). -/
def Obligations.StepKeepsPortsSound : Prop :=
  (∀ s t : State, s.PortsSound → step s = .next t → t.PortsSound) ∧
  ∀ s t : State, s.BacklogSound → s.NoSecondFall → step s = .next t → t.BacklogSound

/-- The state after reset has every property the steps keep; the bounds of the request queue at reset are the
first part of QueueBoundsHold. -/
def Obligations.ResetStateIsSound : Prop :=
  State.reset.ConfigSound ∧ State.reset.ResetSound ∧ State.reset.AccountsSound ∧
  State.reset.SelectionSound ∧ State.reset.ArbiterSound ∧ State.reset.CreditSound ∧
  State.reset.TagsSound ∧ State.reset.NoticesSound ∧ State.reset.WaitListsSound ∧
  State.reset.StagingSound ∧ State.reset.PortsSound ∧ State.reset.BacklogSound ∧
  State.reset.CounterSound
end

