-- ==== Sys2Proof/Laws/Table.lean ====
section
/-!
SUPPORT. What reading a table gives after each way of making one.
-/
namespace Sys2Proof

variable {α β : Type} {n : Nat}

theorem everyIndex_getElem : (n : Nat) → (i : Nat) → (h : i < (everyIndex n).length) →
    (everyIndex n)[i] = ⟨i, by simpa [everyIndex_length] using h⟩
  | 0, i, h => by simp [everyIndex] at h
  | n + 1, 0, h => rfl
  | n + 1, i + 1, h => by
    simp only [everyIndex, List.getElem_cons_succ, List.getElem_map]
    rw [everyIndex_getElem n i]
    rfl

namespace Table

theorem ext_read {t u : Table n α} (h : ∀ i, t.read i = u.read i) : t = u := by
  cases t with | mk a ha => cases u with | mk b hb =>
  congr
  apply List.ext_getElem
  · rw [ha, hb]
  · intro i h1 h2
    exact h ⟨i, by omega⟩

@[simp] theorem read_fill (x : α) (i : Fin n) : (Table.fill n x).read i = x := by
  simp [Table.fill, Table.read]

@[simp] theorem read_map (f : α → β) (t : Table n α) (i : Fin n) : (t.map f).read i = f (t.read i) := by
  simp [Table.map, Table.read]

@[simp] theorem read_tabulate (f : Fin n → α) (i : Fin n) : (Table.tabulate n f).read i = f i := by
  simp [Table.tabulate, Table.read, everyIndex_getElem]

@[simp] theorem read_write_same (t : Table n α) (i : Fin n) (x : α) : (t.write i x).read i = x := by
  simp [Table.write, Table.read]

theorem read_write (t : Table n α) (i j : Fin n) (x : α) :
    (t.write i x).read j = if j = i then x else t.read j := by
  simp only [Table.write, Table.read, List.getElem_set]
  by_cases h : j = i
  · simp [h]
  · have : ¬ i.val = j.val := fun e => h (Fin.ext e.symm)
    simp [h, this]

theorem read_write_of_ne (t : Table n α) {i j : Fin n} (x : α) (h : j ≠ i) :
    (t.write i x).read j = t.read j := by
  simp [read_write, h]

@[simp] theorem write_write (t : Table n α) (i : Fin n) (x y : α) :
    (t.write i x).write i y = t.write i y := by
  apply ext_read; intro j
  by_cases h : j = i <;> simp [read_write, h]

@[simp] theorem write_read (t : Table n α) (i : Fin n) : t.write i (t.read i) = t := by
  apply ext_read; intro j
  by_cases h : j = i <;> simp [read_write, h]

theorem mem_cells (t : Table n α) (x : α) : x ∈ t.cells ↔ ∃ i, t.read i = x := by
  constructor
  · intro h
    obtain ⟨i, hi, rfl⟩ := List.mem_iff_getElem.mp h
    exact ⟨⟨i, by have := t.size; omega⟩, rfl⟩
  · rintro ⟨i, rfl⟩
    exact List.getElem_mem _

end Table

namespace PerRef

@[simp] theorem read_write_same (t : PerRef α) (r : RefId) (x : α) : (t.write r x).read r = x := by
  cases r <;> rfl

theorem read_write (t : PerRef α) (r q : RefId) (x : α) :
    (t.write r x).read q = if q = r then x else t.read q := by
  cases r <;> cases q <;> rfl

end PerRef

end Sys2Proof
end

