-- ==== Sys2Proof/Laws/State.lean ====
section
/-!
SUPPORT. What each field of the state is after each update of Machine/Ops.lean: one lemma per field per
update, true by `rfl`; then what reading a numbered part gives after writing one.
-/
namespace Sys2Proof.Machine
namespace State

variable (s : State)


/-! setSelection -/

@[simp] theorem setSelection_selection (x : Selection) : (s.setSelection x).selection = x := rfl
@[simp] theorem setSelection_config (x : Selection) : (s.setSelection x).config = s.config := rfl
@[simp] theorem setSelection_hubTime (x : Selection) : (s.setSelection x).hubTime = s.hubTime := rfl
@[simp] theorem setSelection_inReset (x : Selection) : (s.setSelection x).inReset = s.inReset := rfl
@[simp] theorem setSelection_engine (x : Selection) : (s.setSelection x).engine = s.engine := rfl
@[simp] theorem setSelection_queue (x : Selection) : (s.setSelection x).queue = s.queue := rfl
@[simp] theorem setSelection_schedules (x : Selection) : (s.setSelection x).schedules = s.schedules := rfl
@[simp] theorem setSelection_results (x : Selection) : (s.setSelection x).results = s.results := rfl
@[simp] theorem setSelection_completions (x : Selection) : (s.setSelection x).completions = s.completions := rfl
@[simp] theorem setSelection_watch (x : Selection) : (s.setSelection x).watch = s.watch := rfl
@[simp] theorem setSelection_leases (x : Selection) : (s.setSelection x).leases = s.leases := rfl
@[simp] theorem setSelection_ports (x : Selection) : (s.setSelection x).ports = s.ports := rfl
@[simp] theorem setSelection_pending (x : Selection) : (s.setSelection x).pending = s.pending := rfl

/-! setConfig -/

@[simp] theorem setConfig_selection (x : ChannelTable) : (s.setConfig x).selection = s.selection := rfl
@[simp] theorem setConfig_config (x : ChannelTable) : (s.setConfig x).config = x := rfl
@[simp] theorem setConfig_hubTime (x : ChannelTable) : (s.setConfig x).hubTime = s.hubTime := rfl
@[simp] theorem setConfig_inReset (x : ChannelTable) : (s.setConfig x).inReset = s.inReset := rfl
@[simp] theorem setConfig_engine (x : ChannelTable) : (s.setConfig x).engine = s.engine := rfl
@[simp] theorem setConfig_queue (x : ChannelTable) : (s.setConfig x).queue = s.queue := rfl
@[simp] theorem setConfig_schedules (x : ChannelTable) : (s.setConfig x).schedules = s.schedules := rfl
@[simp] theorem setConfig_results (x : ChannelTable) : (s.setConfig x).results = s.results := rfl
@[simp] theorem setConfig_completions (x : ChannelTable) : (s.setConfig x).completions = s.completions := rfl
@[simp] theorem setConfig_watch (x : ChannelTable) : (s.setConfig x).watch = s.watch := rfl
@[simp] theorem setConfig_leases (x : ChannelTable) : (s.setConfig x).leases = s.leases := rfl
@[simp] theorem setConfig_ports (x : ChannelTable) : (s.setConfig x).ports = s.ports := rfl
@[simp] theorem setConfig_pending (x : ChannelTable) : (s.setConfig x).pending = s.pending := rfl

/-! setHubTime -/

@[simp] theorem setHubTime_selection (x : Time) : (s.setHubTime x).selection = s.selection := rfl
@[simp] theorem setHubTime_config (x : Time) : (s.setHubTime x).config = s.config := rfl
@[simp] theorem setHubTime_hubTime (x : Time) : (s.setHubTime x).hubTime = x := rfl
@[simp] theorem setHubTime_inReset (x : Time) : (s.setHubTime x).inReset = s.inReset := rfl
@[simp] theorem setHubTime_engine (x : Time) : (s.setHubTime x).engine = s.engine := rfl
@[simp] theorem setHubTime_queue (x : Time) : (s.setHubTime x).queue = s.queue := rfl
@[simp] theorem setHubTime_schedules (x : Time) : (s.setHubTime x).schedules = s.schedules := rfl
@[simp] theorem setHubTime_results (x : Time) : (s.setHubTime x).results = s.results := rfl
@[simp] theorem setHubTime_completions (x : Time) : (s.setHubTime x).completions = s.completions := rfl
@[simp] theorem setHubTime_watch (x : Time) : (s.setHubTime x).watch = s.watch := rfl
@[simp] theorem setHubTime_leases (x : Time) : (s.setHubTime x).leases = s.leases := rfl
@[simp] theorem setHubTime_ports (x : Time) : (s.setHubTime x).ports = s.ports := rfl
@[simp] theorem setHubTime_pending (x : Time) : (s.setHubTime x).pending = s.pending := rfl

/-! setInReset -/

@[simp] theorem setInReset_selection (x : Bool) : (s.setInReset x).selection = s.selection := rfl
@[simp] theorem setInReset_config (x : Bool) : (s.setInReset x).config = s.config := rfl
@[simp] theorem setInReset_hubTime (x : Bool) : (s.setInReset x).hubTime = s.hubTime := rfl
@[simp] theorem setInReset_inReset (x : Bool) : (s.setInReset x).inReset = x := rfl
@[simp] theorem setInReset_engine (x : Bool) : (s.setInReset x).engine = s.engine := rfl
@[simp] theorem setInReset_queue (x : Bool) : (s.setInReset x).queue = s.queue := rfl
@[simp] theorem setInReset_schedules (x : Bool) : (s.setInReset x).schedules = s.schedules := rfl
@[simp] theorem setInReset_results (x : Bool) : (s.setInReset x).results = s.results := rfl
@[simp] theorem setInReset_completions (x : Bool) : (s.setInReset x).completions = s.completions := rfl
@[simp] theorem setInReset_watch (x : Bool) : (s.setInReset x).watch = s.watch := rfl
@[simp] theorem setInReset_leases (x : Bool) : (s.setInReset x).leases = s.leases := rfl
@[simp] theorem setInReset_ports (x : Bool) : (s.setInReset x).ports = s.ports := rfl
@[simp] theorem setInReset_pending (x : Bool) : (s.setInReset x).pending = s.pending := rfl

/-! setEngine -/

@[simp] theorem setEngine_selection (x : Engine) : (s.setEngine x).selection = s.selection := rfl
@[simp] theorem setEngine_config (x : Engine) : (s.setEngine x).config = s.config := rfl
@[simp] theorem setEngine_hubTime (x : Engine) : (s.setEngine x).hubTime = s.hubTime := rfl
@[simp] theorem setEngine_inReset (x : Engine) : (s.setEngine x).inReset = s.inReset := rfl
@[simp] theorem setEngine_engine (x : Engine) : (s.setEngine x).engine = x := rfl
@[simp] theorem setEngine_queue (x : Engine) : (s.setEngine x).queue = s.queue := rfl
@[simp] theorem setEngine_schedules (x : Engine) : (s.setEngine x).schedules = s.schedules := rfl
@[simp] theorem setEngine_results (x : Engine) : (s.setEngine x).results = s.results := rfl
@[simp] theorem setEngine_completions (x : Engine) : (s.setEngine x).completions = s.completions := rfl
@[simp] theorem setEngine_watch (x : Engine) : (s.setEngine x).watch = s.watch := rfl
@[simp] theorem setEngine_leases (x : Engine) : (s.setEngine x).leases = s.leases := rfl
@[simp] theorem setEngine_ports (x : Engine) : (s.setEngine x).ports = s.ports := rfl
@[simp] theorem setEngine_pending (x : Engine) : (s.setEngine x).pending = s.pending := rfl

/-! setQueue -/

@[simp] theorem setQueue_selection (x : RequestQueue) : (s.setQueue x).selection = s.selection := rfl
@[simp] theorem setQueue_config (x : RequestQueue) : (s.setQueue x).config = s.config := rfl
@[simp] theorem setQueue_hubTime (x : RequestQueue) : (s.setQueue x).hubTime = s.hubTime := rfl
@[simp] theorem setQueue_inReset (x : RequestQueue) : (s.setQueue x).inReset = s.inReset := rfl
@[simp] theorem setQueue_engine (x : RequestQueue) : (s.setQueue x).engine = s.engine := rfl
@[simp] theorem setQueue_queue (x : RequestQueue) : (s.setQueue x).queue = x := rfl
@[simp] theorem setQueue_schedules (x : RequestQueue) : (s.setQueue x).schedules = s.schedules := rfl
@[simp] theorem setQueue_results (x : RequestQueue) : (s.setQueue x).results = s.results := rfl
@[simp] theorem setQueue_completions (x : RequestQueue) : (s.setQueue x).completions = s.completions := rfl
@[simp] theorem setQueue_watch (x : RequestQueue) : (s.setQueue x).watch = s.watch := rfl
@[simp] theorem setQueue_leases (x : RequestQueue) : (s.setQueue x).leases = s.leases := rfl
@[simp] theorem setQueue_ports (x : RequestQueue) : (s.setQueue x).ports = s.ports := rfl
@[simp] theorem setQueue_pending (x : RequestQueue) : (s.setQueue x).pending = s.pending := rfl

/-! setSchedules -/

@[simp] theorem setSchedules_selection (x : Table 8 (Option Schedule)) : (s.setSchedules x).selection = s.selection := rfl
@[simp] theorem setSchedules_config (x : Table 8 (Option Schedule)) : (s.setSchedules x).config = s.config := rfl
@[simp] theorem setSchedules_hubTime (x : Table 8 (Option Schedule)) : (s.setSchedules x).hubTime = s.hubTime := rfl
@[simp] theorem setSchedules_inReset (x : Table 8 (Option Schedule)) : (s.setSchedules x).inReset = s.inReset := rfl
@[simp] theorem setSchedules_engine (x : Table 8 (Option Schedule)) : (s.setSchedules x).engine = s.engine := rfl
@[simp] theorem setSchedules_queue (x : Table 8 (Option Schedule)) : (s.setSchedules x).queue = s.queue := rfl
@[simp] theorem setSchedules_schedules (x : Table 8 (Option Schedule)) : (s.setSchedules x).schedules = x := rfl
@[simp] theorem setSchedules_results (x : Table 8 (Option Schedule)) : (s.setSchedules x).results = s.results := rfl
@[simp] theorem setSchedules_completions (x : Table 8 (Option Schedule)) : (s.setSchedules x).completions = s.completions := rfl
@[simp] theorem setSchedules_watch (x : Table 8 (Option Schedule)) : (s.setSchedules x).watch = s.watch := rfl
@[simp] theorem setSchedules_leases (x : Table 8 (Option Schedule)) : (s.setSchedules x).leases = s.leases := rfl
@[simp] theorem setSchedules_ports (x : Table 8 (Option Schedule)) : (s.setSchedules x).ports = s.ports := rfl
@[simp] theorem setSchedules_pending (x : Table 8 (Option Schedule)) : (s.setSchedules x).pending = s.pending := rfl

/-! setResults -/

@[simp] theorem setResults_selection (x : Table 12 ResultRecord) : (s.setResults x).selection = s.selection := rfl
@[simp] theorem setResults_config (x : Table 12 ResultRecord) : (s.setResults x).config = s.config := rfl
@[simp] theorem setResults_hubTime (x : Table 12 ResultRecord) : (s.setResults x).hubTime = s.hubTime := rfl
@[simp] theorem setResults_inReset (x : Table 12 ResultRecord) : (s.setResults x).inReset = s.inReset := rfl
@[simp] theorem setResults_engine (x : Table 12 ResultRecord) : (s.setResults x).engine = s.engine := rfl
@[simp] theorem setResults_queue (x : Table 12 ResultRecord) : (s.setResults x).queue = s.queue := rfl
@[simp] theorem setResults_schedules (x : Table 12 ResultRecord) : (s.setResults x).schedules = s.schedules := rfl
@[simp] theorem setResults_results (x : Table 12 ResultRecord) : (s.setResults x).results = x := rfl
@[simp] theorem setResults_completions (x : Table 12 ResultRecord) : (s.setResults x).completions = s.completions := rfl
@[simp] theorem setResults_watch (x : Table 12 ResultRecord) : (s.setResults x).watch = s.watch := rfl
@[simp] theorem setResults_leases (x : Table 12 ResultRecord) : (s.setResults x).leases = s.leases := rfl
@[simp] theorem setResults_ports (x : Table 12 ResultRecord) : (s.setResults x).ports = s.ports := rfl
@[simp] theorem setResults_pending (x : Table 12 ResultRecord) : (s.setResults x).pending = s.pending := rfl

/-! setCompletions -/

@[simp] theorem setCompletions_selection (x : Table 3 (List Completion)) : (s.setCompletions x).selection = s.selection := rfl
@[simp] theorem setCompletions_config (x : Table 3 (List Completion)) : (s.setCompletions x).config = s.config := rfl
@[simp] theorem setCompletions_hubTime (x : Table 3 (List Completion)) : (s.setCompletions x).hubTime = s.hubTime := rfl
@[simp] theorem setCompletions_inReset (x : Table 3 (List Completion)) : (s.setCompletions x).inReset = s.inReset := rfl
@[simp] theorem setCompletions_engine (x : Table 3 (List Completion)) : (s.setCompletions x).engine = s.engine := rfl
@[simp] theorem setCompletions_queue (x : Table 3 (List Completion)) : (s.setCompletions x).queue = s.queue := rfl
@[simp] theorem setCompletions_schedules (x : Table 3 (List Completion)) : (s.setCompletions x).schedules = s.schedules := rfl
@[simp] theorem setCompletions_results (x : Table 3 (List Completion)) : (s.setCompletions x).results = s.results := rfl
@[simp] theorem setCompletions_completions (x : Table 3 (List Completion)) : (s.setCompletions x).completions = x := rfl
@[simp] theorem setCompletions_watch (x : Table 3 (List Completion)) : (s.setCompletions x).watch = s.watch := rfl
@[simp] theorem setCompletions_leases (x : Table 3 (List Completion)) : (s.setCompletions x).leases = s.leases := rfl
@[simp] theorem setCompletions_ports (x : Table 3 (List Completion)) : (s.setCompletions x).ports = s.ports := rfl
@[simp] theorem setCompletions_pending (x : Table 3 (List Completion)) : (s.setCompletions x).pending = s.pending := rfl

/-! setWatch -/

@[simp] theorem setWatch_selection (x : Table 3 PortWatch) : (s.setWatch x).selection = s.selection := rfl
@[simp] theorem setWatch_config (x : Table 3 PortWatch) : (s.setWatch x).config = s.config := rfl
@[simp] theorem setWatch_hubTime (x : Table 3 PortWatch) : (s.setWatch x).hubTime = s.hubTime := rfl
@[simp] theorem setWatch_inReset (x : Table 3 PortWatch) : (s.setWatch x).inReset = s.inReset := rfl
@[simp] theorem setWatch_engine (x : Table 3 PortWatch) : (s.setWatch x).engine = s.engine := rfl
@[simp] theorem setWatch_queue (x : Table 3 PortWatch) : (s.setWatch x).queue = s.queue := rfl
@[simp] theorem setWatch_schedules (x : Table 3 PortWatch) : (s.setWatch x).schedules = s.schedules := rfl
@[simp] theorem setWatch_results (x : Table 3 PortWatch) : (s.setWatch x).results = s.results := rfl
@[simp] theorem setWatch_completions (x : Table 3 PortWatch) : (s.setWatch x).completions = s.completions := rfl
@[simp] theorem setWatch_watch (x : Table 3 PortWatch) : (s.setWatch x).watch = x := rfl
@[simp] theorem setWatch_leases (x : Table 3 PortWatch) : (s.setWatch x).leases = s.leases := rfl
@[simp] theorem setWatch_ports (x : Table 3 PortWatch) : (s.setWatch x).ports = s.ports := rfl
@[simp] theorem setWatch_pending (x : Table 3 PortWatch) : (s.setWatch x).pending = s.pending := rfl

/-! setLeases -/

@[simp] theorem setLeases_selection (x : LeaseUnit) : (s.setLeases x).selection = s.selection := rfl
@[simp] theorem setLeases_config (x : LeaseUnit) : (s.setLeases x).config = s.config := rfl
@[simp] theorem setLeases_hubTime (x : LeaseUnit) : (s.setLeases x).hubTime = s.hubTime := rfl
@[simp] theorem setLeases_inReset (x : LeaseUnit) : (s.setLeases x).inReset = s.inReset := rfl
@[simp] theorem setLeases_engine (x : LeaseUnit) : (s.setLeases x).engine = s.engine := rfl
@[simp] theorem setLeases_queue (x : LeaseUnit) : (s.setLeases x).queue = s.queue := rfl
@[simp] theorem setLeases_schedules (x : LeaseUnit) : (s.setLeases x).schedules = s.schedules := rfl
@[simp] theorem setLeases_results (x : LeaseUnit) : (s.setLeases x).results = s.results := rfl
@[simp] theorem setLeases_completions (x : LeaseUnit) : (s.setLeases x).completions = s.completions := rfl
@[simp] theorem setLeases_watch (x : LeaseUnit) : (s.setLeases x).watch = s.watch := rfl
@[simp] theorem setLeases_leases (x : LeaseUnit) : (s.setLeases x).leases = x := rfl
@[simp] theorem setLeases_ports (x : LeaseUnit) : (s.setLeases x).ports = s.ports := rfl
@[simp] theorem setLeases_pending (x : LeaseUnit) : (s.setLeases x).pending = s.pending := rfl

/-! setPorts -/

@[simp] theorem setPorts_selection (x : Table 3 PortController) : (s.setPorts x).selection = s.selection := rfl
@[simp] theorem setPorts_config (x : Table 3 PortController) : (s.setPorts x).config = s.config := rfl
@[simp] theorem setPorts_hubTime (x : Table 3 PortController) : (s.setPorts x).hubTime = s.hubTime := rfl
@[simp] theorem setPorts_inReset (x : Table 3 PortController) : (s.setPorts x).inReset = s.inReset := rfl
@[simp] theorem setPorts_engine (x : Table 3 PortController) : (s.setPorts x).engine = s.engine := rfl
@[simp] theorem setPorts_queue (x : Table 3 PortController) : (s.setPorts x).queue = s.queue := rfl
@[simp] theorem setPorts_schedules (x : Table 3 PortController) : (s.setPorts x).schedules = s.schedules := rfl
@[simp] theorem setPorts_results (x : Table 3 PortController) : (s.setPorts x).results = s.results := rfl
@[simp] theorem setPorts_completions (x : Table 3 PortController) : (s.setPorts x).completions = s.completions := rfl
@[simp] theorem setPorts_watch (x : Table 3 PortController) : (s.setPorts x).watch = s.watch := rfl
@[simp] theorem setPorts_leases (x : Table 3 PortController) : (s.setPorts x).leases = s.leases := rfl
@[simp] theorem setPorts_ports (x : Table 3 PortController) : (s.setPorts x).ports = x := rfl
@[simp] theorem setPorts_pending (x : Table 3 PortController) : (s.setPorts x).pending = s.pending := rfl

/-! setPending -/

@[simp] theorem setPending_selection (x : List Instr) : (s.setPending x).selection = s.selection := rfl
@[simp] theorem setPending_config (x : List Instr) : (s.setPending x).config = s.config := rfl
@[simp] theorem setPending_hubTime (x : List Instr) : (s.setPending x).hubTime = s.hubTime := rfl
@[simp] theorem setPending_inReset (x : List Instr) : (s.setPending x).inReset = s.inReset := rfl
@[simp] theorem setPending_engine (x : List Instr) : (s.setPending x).engine = s.engine := rfl
@[simp] theorem setPending_queue (x : List Instr) : (s.setPending x).queue = s.queue := rfl
@[simp] theorem setPending_schedules (x : List Instr) : (s.setPending x).schedules = s.schedules := rfl
@[simp] theorem setPending_results (x : List Instr) : (s.setPending x).results = s.results := rfl
@[simp] theorem setPending_completions (x : List Instr) : (s.setPending x).completions = s.completions := rfl
@[simp] theorem setPending_watch (x : List Instr) : (s.setPending x).watch = s.watch := rfl
@[simp] theorem setPending_leases (x : List Instr) : (s.setPending x).leases = s.leases := rfl
@[simp] theorem setPending_ports (x : List Instr) : (s.setPending x).ports = s.ports := rfl
@[simp] theorem setPending_pending (x : List Instr) : (s.setPending x).pending = x := rfl

/-! setPort -/

@[simp] theorem setPort_selection (p : PortId) (x : PortController) :
    (s.setPort p x).selection = s.selection := rfl
@[simp] theorem setPort_config (p : PortId) (x : PortController) : (s.setPort p x).config = s.config := rfl
@[simp] theorem setPort_hubTime (p : PortId) (x : PortController) :
    (s.setPort p x).hubTime = s.hubTime := rfl
@[simp] theorem setPort_inReset (p : PortId) (x : PortController) :
    (s.setPort p x).inReset = s.inReset := rfl
@[simp] theorem setPort_engine (p : PortId) (x : PortController) : (s.setPort p x).engine = s.engine := rfl
@[simp] theorem setPort_queue (p : PortId) (x : PortController) : (s.setPort p x).queue = s.queue := rfl
@[simp] theorem setPort_schedules (p : PortId) (x : PortController) :
    (s.setPort p x).schedules = s.schedules := rfl
@[simp] theorem setPort_results (p : PortId) (x : PortController) :
    (s.setPort p x).results = s.results := rfl
@[simp] theorem setPort_completions (p : PortId) (x : PortController) :
    (s.setPort p x).completions = s.completions := rfl
@[simp] theorem setPort_watch (p : PortId) (x : PortController) : (s.setPort p x).watch = s.watch := rfl
@[simp] theorem setPort_leases (p : PortId) (x : PortController) : (s.setPort p x).leases = s.leases := rfl
@[simp] theorem setPort_ports (p : PortId) (x : PortController) :
    (s.setPort p x).ports = s.ports.write p x := rfl
@[simp] theorem setPort_pending (p : PortId) (x : PortController) :
    (s.setPort p x).pending = s.pending := rfl

/-! setCq -/

@[simp] theorem setCq_selection (p : PortId) (x : List Completion) :
    (s.setCq p x).selection = s.selection := rfl
@[simp] theorem setCq_config (p : PortId) (x : List Completion) : (s.setCq p x).config = s.config := rfl
@[simp] theorem setCq_hubTime (p : PortId) (x : List Completion) : (s.setCq p x).hubTime = s.hubTime := rfl
@[simp] theorem setCq_inReset (p : PortId) (x : List Completion) : (s.setCq p x).inReset = s.inReset := rfl
@[simp] theorem setCq_engine (p : PortId) (x : List Completion) : (s.setCq p x).engine = s.engine := rfl
@[simp] theorem setCq_queue (p : PortId) (x : List Completion) : (s.setCq p x).queue = s.queue := rfl
@[simp] theorem setCq_schedules (p : PortId) (x : List Completion) :
    (s.setCq p x).schedules = s.schedules := rfl
@[simp] theorem setCq_results (p : PortId) (x : List Completion) : (s.setCq p x).results = s.results := rfl
@[simp] theorem setCq_completions (p : PortId) (x : List Completion) :
    (s.setCq p x).completions = s.completions.write p x := rfl
@[simp] theorem setCq_watch (p : PortId) (x : List Completion) : (s.setCq p x).watch = s.watch := rfl
@[simp] theorem setCq_leases (p : PortId) (x : List Completion) : (s.setCq p x).leases = s.leases := rfl
@[simp] theorem setCq_ports (p : PortId) (x : List Completion) : (s.setCq p x).ports = s.ports := rfl
@[simp] theorem setCq_pending (p : PortId) (x : List Completion) : (s.setCq p x).pending = s.pending := rfl

/-! setPortWatch -/

@[simp] theorem setPortWatch_selection (p : PortId) (x : PortWatch) :
    (s.setPortWatch p x).selection = s.selection := rfl
@[simp] theorem setPortWatch_config (p : PortId) (x : PortWatch) :
    (s.setPortWatch p x).config = s.config := rfl
@[simp] theorem setPortWatch_hubTime (p : PortId) (x : PortWatch) :
    (s.setPortWatch p x).hubTime = s.hubTime := rfl
@[simp] theorem setPortWatch_inReset (p : PortId) (x : PortWatch) :
    (s.setPortWatch p x).inReset = s.inReset := rfl
@[simp] theorem setPortWatch_engine (p : PortId) (x : PortWatch) :
    (s.setPortWatch p x).engine = s.engine := rfl
@[simp] theorem setPortWatch_queue (p : PortId) (x : PortWatch) :
    (s.setPortWatch p x).queue = s.queue := rfl
@[simp] theorem setPortWatch_schedules (p : PortId) (x : PortWatch) :
    (s.setPortWatch p x).schedules = s.schedules := rfl
@[simp] theorem setPortWatch_results (p : PortId) (x : PortWatch) :
    (s.setPortWatch p x).results = s.results := rfl
@[simp] theorem setPortWatch_completions (p : PortId) (x : PortWatch) :
    (s.setPortWatch p x).completions = s.completions := rfl
@[simp] theorem setPortWatch_watch (p : PortId) (x : PortWatch) :
    (s.setPortWatch p x).watch = s.watch.write p x := rfl
@[simp] theorem setPortWatch_leases (p : PortId) (x : PortWatch) :
    (s.setPortWatch p x).leases = s.leases := rfl
@[simp] theorem setPortWatch_ports (p : PortId) (x : PortWatch) :
    (s.setPortWatch p x).ports = s.ports := rfl
@[simp] theorem setPortWatch_pending (p : PortId) (x : PortWatch) :
    (s.setPortWatch p x).pending = s.pending := rfl

/-! setSchedule -/

@[simp] theorem setSchedule_selection (i : ScheduleId) (x : Option Schedule) :
    (s.setSchedule i x).selection = s.selection := rfl
@[simp] theorem setSchedule_config (i : ScheduleId) (x : Option Schedule) :
    (s.setSchedule i x).config = s.config := rfl
@[simp] theorem setSchedule_hubTime (i : ScheduleId) (x : Option Schedule) :
    (s.setSchedule i x).hubTime = s.hubTime := rfl
@[simp] theorem setSchedule_inReset (i : ScheduleId) (x : Option Schedule) :
    (s.setSchedule i x).inReset = s.inReset := rfl
@[simp] theorem setSchedule_engine (i : ScheduleId) (x : Option Schedule) :
    (s.setSchedule i x).engine = s.engine := rfl
@[simp] theorem setSchedule_queue (i : ScheduleId) (x : Option Schedule) :
    (s.setSchedule i x).queue = s.queue := rfl
@[simp] theorem setSchedule_schedules (i : ScheduleId) (x : Option Schedule) :
    (s.setSchedule i x).schedules = s.schedules.write i x := rfl
@[simp] theorem setSchedule_results (i : ScheduleId) (x : Option Schedule) :
    (s.setSchedule i x).results = s.results := rfl
@[simp] theorem setSchedule_completions (i : ScheduleId) (x : Option Schedule) :
    (s.setSchedule i x).completions = s.completions := rfl
@[simp] theorem setSchedule_watch (i : ScheduleId) (x : Option Schedule) :
    (s.setSchedule i x).watch = s.watch := rfl
@[simp] theorem setSchedule_leases (i : ScheduleId) (x : Option Schedule) :
    (s.setSchedule i x).leases = s.leases := rfl
@[simp] theorem setSchedule_ports (i : ScheduleId) (x : Option Schedule) :
    (s.setSchedule i x).ports = s.ports := rfl
@[simp] theorem setSchedule_pending (i : ScheduleId) (x : Option Schedule) :
    (s.setSchedule i x).pending = s.pending := rfl

/-! setResult -/

@[simp] theorem setResult_selection (c : ChannelId) (x : ResultRecord) :
    (s.setResult c x).selection = s.selection := rfl
@[simp] theorem setResult_config (c : ChannelId) (x : ResultRecord) :
    (s.setResult c x).config = s.config := rfl
@[simp] theorem setResult_hubTime (c : ChannelId) (x : ResultRecord) :
    (s.setResult c x).hubTime = s.hubTime := rfl
@[simp] theorem setResult_inReset (c : ChannelId) (x : ResultRecord) :
    (s.setResult c x).inReset = s.inReset := rfl
@[simp] theorem setResult_engine (c : ChannelId) (x : ResultRecord) :
    (s.setResult c x).engine = s.engine := rfl
@[simp] theorem setResult_queue (c : ChannelId) (x : ResultRecord) :
    (s.setResult c x).queue = s.queue := rfl
@[simp] theorem setResult_schedules (c : ChannelId) (x : ResultRecord) :
    (s.setResult c x).schedules = s.schedules := rfl
@[simp] theorem setResult_results (c : ChannelId) (x : ResultRecord) :
    (s.setResult c x).results = s.results.write c x := rfl
@[simp] theorem setResult_completions (c : ChannelId) (x : ResultRecord) :
    (s.setResult c x).completions = s.completions := rfl
@[simp] theorem setResult_watch (c : ChannelId) (x : ResultRecord) :
    (s.setResult c x).watch = s.watch := rfl
@[simp] theorem setResult_leases (c : ChannelId) (x : ResultRecord) :
    (s.setResult c x).leases = s.leases := rfl
@[simp] theorem setResult_ports (c : ChannelId) (x : ResultRecord) :
    (s.setResult c x).ports = s.ports := rfl
@[simp] theorem setResult_pending (c : ChannelId) (x : ResultRecord) :
    (s.setResult c x).pending = s.pending := rfl

/-! setGroup -/

@[simp] theorem setGroup_selection (g : GroupId) (x : GroupLease) :
    (s.setGroup g x).selection = s.selection := rfl
@[simp] theorem setGroup_config (g : GroupId) (x : GroupLease) : (s.setGroup g x).config = s.config := rfl
@[simp] theorem setGroup_hubTime (g : GroupId) (x : GroupLease) :
    (s.setGroup g x).hubTime = s.hubTime := rfl
@[simp] theorem setGroup_inReset (g : GroupId) (x : GroupLease) :
    (s.setGroup g x).inReset = s.inReset := rfl
@[simp] theorem setGroup_engine (g : GroupId) (x : GroupLease) : (s.setGroup g x).engine = s.engine := rfl
@[simp] theorem setGroup_queue (g : GroupId) (x : GroupLease) : (s.setGroup g x).queue = s.queue := rfl
@[simp] theorem setGroup_schedules (g : GroupId) (x : GroupLease) :
    (s.setGroup g x).schedules = s.schedules := rfl
@[simp] theorem setGroup_results (g : GroupId) (x : GroupLease) :
    (s.setGroup g x).results = s.results := rfl
@[simp] theorem setGroup_completions (g : GroupId) (x : GroupLease) :
    (s.setGroup g x).completions = s.completions := rfl
@[simp] theorem setGroup_watch (g : GroupId) (x : GroupLease) : (s.setGroup g x).watch = s.watch := rfl
@[simp] theorem setGroup_leases (g : GroupId) (x : GroupLease) :
    (s.setGroup g x).leases = { s.leases with groups := s.leases.groups.write g x } := rfl
@[simp] theorem setGroup_ports (g : GroupId) (x : GroupLease) : (s.setGroup g x).ports = s.ports := rfl
@[simp] theorem setGroup_pending (g : GroupId) (x : GroupLease) :
    (s.setGroup g x).pending = s.pending := rfl

/-! setHubStaging -/

@[simp] theorem setHubStaging_selection (x : HubStaging) :
    (s.setHubStaging x).selection = s.selection := rfl
@[simp] theorem setHubStaging_config (x : HubStaging) : (s.setHubStaging x).config = s.config := rfl
@[simp] theorem setHubStaging_hubTime (x : HubStaging) : (s.setHubStaging x).hubTime = s.hubTime := rfl
@[simp] theorem setHubStaging_inReset (x : HubStaging) : (s.setHubStaging x).inReset = s.inReset := rfl
@[simp] theorem setHubStaging_engine (x : HubStaging) : (s.setHubStaging x).engine = s.engine := rfl
@[simp] theorem setHubStaging_queue (x : HubStaging) : (s.setHubStaging x).queue = s.queue := rfl
@[simp] theorem setHubStaging_schedules (x : HubStaging) :
    (s.setHubStaging x).schedules = s.schedules := rfl
@[simp] theorem setHubStaging_results (x : HubStaging) : (s.setHubStaging x).results = s.results := rfl
@[simp] theorem setHubStaging_completions (x : HubStaging) :
    (s.setHubStaging x).completions = s.completions := rfl
@[simp] theorem setHubStaging_watch (x : HubStaging) : (s.setHubStaging x).watch = s.watch := rfl
@[simp] theorem setHubStaging_leases (x : HubStaging) :
    (s.setHubStaging x).leases = { s.leases with hubStaging := x } := rfl
@[simp] theorem setHubStaging_ports (x : HubStaging) : (s.setHubStaging x).ports = s.ports := rfl
@[simp] theorem setHubStaging_pending (x : HubStaging) : (s.setHubStaging x).pending = s.pending := rfl

/-! setStaging -/

@[simp] theorem setStaging_selection (x : Table 12 (Option StagedChannel)) :
    (s.setStaging x).selection = s.selection := rfl
@[simp] theorem setStaging_config (x : Table 12 (Option StagedChannel)) :
    (s.setStaging x).config = s.config := rfl
@[simp] theorem setStaging_hubTime (x : Table 12 (Option StagedChannel)) :
    (s.setStaging x).hubTime = s.hubTime := rfl
@[simp] theorem setStaging_inReset (x : Table 12 (Option StagedChannel)) :
    (s.setStaging x).inReset = s.inReset := rfl
@[simp] theorem setStaging_engine (x : Table 12 (Option StagedChannel)) :
    (s.setStaging x).engine = s.engine := rfl
@[simp] theorem setStaging_queue (x : Table 12 (Option StagedChannel)) :
    (s.setStaging x).queue = s.queue := rfl
@[simp] theorem setStaging_schedules (x : Table 12 (Option StagedChannel)) :
    (s.setStaging x).schedules = s.schedules := rfl
@[simp] theorem setStaging_results (x : Table 12 (Option StagedChannel)) :
    (s.setStaging x).results = s.results := rfl
@[simp] theorem setStaging_completions (x : Table 12 (Option StagedChannel)) :
    (s.setStaging x).completions = s.completions := rfl
@[simp] theorem setStaging_watch (x : Table 12 (Option StagedChannel)) :
    (s.setStaging x).watch = s.watch := rfl
@[simp] theorem setStaging_leases (x : Table 12 (Option StagedChannel)) :
    (s.setStaging x).leases = { s.leases with staging := x } := rfl
@[simp] theorem setStaging_ports (x : Table 12 (Option StagedChannel)) :
    (s.setStaging x).ports = s.ports := rfl
@[simp] theorem setStaging_pending (x : Table 12 (Option StagedChannel)) :
    (s.setStaging x).pending = s.pending := rfl

/-! setConversion -/

@[simp] theorem setConversion_selection (x : Option Conversion) :
    (s.setConversion x).selection = s.selection := rfl
@[simp] theorem setConversion_config (x : Option Conversion) : (s.setConversion x).config = s.config := rfl
@[simp] theorem setConversion_hubTime (x : Option Conversion) :
    (s.setConversion x).hubTime = s.hubTime := rfl
@[simp] theorem setConversion_inReset (x : Option Conversion) :
    (s.setConversion x).inReset = s.inReset := rfl
@[simp] theorem setConversion_engine (x : Option Conversion) :
    (s.setConversion x).engine = { s.engine with conversion := x } := rfl
@[simp] theorem setConversion_queue (x : Option Conversion) : (s.setConversion x).queue = s.queue := rfl
@[simp] theorem setConversion_schedules (x : Option Conversion) :
    (s.setConversion x).schedules = s.schedules := rfl
@[simp] theorem setConversion_results (x : Option Conversion) :
    (s.setConversion x).results = s.results := rfl
@[simp] theorem setConversion_completions (x : Option Conversion) :
    (s.setConversion x).completions = s.completions := rfl
@[simp] theorem setConversion_watch (x : Option Conversion) : (s.setConversion x).watch = s.watch := rfl
@[simp] theorem setConversion_leases (x : Option Conversion) : (s.setConversion x).leases = s.leases := rfl
@[simp] theorem setConversion_ports (x : Option Conversion) : (s.setConversion x).ports = s.ports := rfl
@[simp] theorem setConversion_pending (x : Option Conversion) :
    (s.setConversion x).pending = s.pending := rfl

/-! setEdgeCounter -/

@[simp] theorem setEdgeCounter_selection (x : Tri) :
    (s.setEdgeCounter x).selection = s.selection := rfl
@[simp] theorem setEdgeCounter_config (x : Tri) : (s.setEdgeCounter x).config = s.config := rfl
@[simp] theorem setEdgeCounter_hubTime (x : Tri) :
    (s.setEdgeCounter x).hubTime = s.hubTime := rfl
@[simp] theorem setEdgeCounter_inReset (x : Tri) :
    (s.setEdgeCounter x).inReset = s.inReset := rfl
@[simp] theorem setEdgeCounter_engine (x : Tri) :
    (s.setEdgeCounter x).engine = { s.engine with edgeCounter := x } := rfl
@[simp] theorem setEdgeCounter_queue (x : Tri) : (s.setEdgeCounter x).queue = s.queue := rfl
@[simp] theorem setEdgeCounter_schedules (x : Tri) :
    (s.setEdgeCounter x).schedules = s.schedules := rfl
@[simp] theorem setEdgeCounter_results (x : Tri) :
    (s.setEdgeCounter x).results = s.results := rfl
@[simp] theorem setEdgeCounter_completions (x : Tri) :
    (s.setEdgeCounter x).completions = s.completions := rfl
@[simp] theorem setEdgeCounter_watch (x : Tri) : (s.setEdgeCounter x).watch = s.watch := rfl
@[simp] theorem setEdgeCounter_leases (x : Tri) : (s.setEdgeCounter x).leases = s.leases := rfl
@[simp] theorem setEdgeCounter_ports (x : Tri) : (s.setEdgeCounter x).ports = s.ports := rfl
@[simp] theorem setEdgeCounter_pending (x : Tri) :
    (s.setEdgeCounter x).pending = s.pending := rfl

/-! setHealth -/

@[simp] theorem setHealth_selection (r : RefId) (x : RefHealth) :
    (s.setHealth r x).selection = s.selection := rfl
@[simp] theorem setHealth_config (r : RefId) (x : RefHealth) : (s.setHealth r x).config = s.config := rfl
@[simp] theorem setHealth_hubTime (r : RefId) (x : RefHealth) : (s.setHealth r x).hubTime = s.hubTime := rfl
@[simp] theorem setHealth_inReset (r : RefId) (x : RefHealth) : (s.setHealth r x).inReset = s.inReset := rfl
@[simp] theorem setHealth_engine (r : RefId) (x : RefHealth) :
    (s.setHealth r x).engine = { s.engine with health := s.engine.health.write r x } := rfl
@[simp] theorem setHealth_queue (r : RefId) (x : RefHealth) : (s.setHealth r x).queue = s.queue := rfl
@[simp] theorem setHealth_schedules (r : RefId) (x : RefHealth) :
    (s.setHealth r x).schedules = s.schedules := rfl
@[simp] theorem setHealth_results (r : RefId) (x : RefHealth) : (s.setHealth r x).results = s.results := rfl
@[simp] theorem setHealth_completions (r : RefId) (x : RefHealth) :
    (s.setHealth r x).completions = s.completions := rfl
@[simp] theorem setHealth_watch (r : RefId) (x : RefHealth) : (s.setHealth r x).watch = s.watch := rfl
@[simp] theorem setHealth_leases (r : RefId) (x : RefHealth) : (s.setHealth r x).leases = s.leases := rfl
@[simp] theorem setHealth_ports (r : RefId) (x : RefHealth) : (s.setHealth r x).ports = s.ports := rfl
@[simp] theorem setHealth_pending (r : RefId) (x : RefHealth) : (s.setHealth r x).pending = s.pending := rfl

/-! setEntries -/

@[simp] theorem setEntries_selection (x : List Entry) : (s.setEntries x).selection = s.selection := rfl
@[simp] theorem setEntries_config (x : List Entry) : (s.setEntries x).config = s.config := rfl
@[simp] theorem setEntries_hubTime (x : List Entry) : (s.setEntries x).hubTime = s.hubTime := rfl
@[simp] theorem setEntries_inReset (x : List Entry) : (s.setEntries x).inReset = s.inReset := rfl
@[simp] theorem setEntries_engine (x : List Entry) : (s.setEntries x).engine = s.engine := rfl
@[simp] theorem setEntries_queue (x : List Entry) :
    (s.setEntries x).queue = { s.queue with entries := x } := rfl
@[simp] theorem setEntries_schedules (x : List Entry) : (s.setEntries x).schedules = s.schedules := rfl
@[simp] theorem setEntries_results (x : List Entry) : (s.setEntries x).results = s.results := rfl
@[simp] theorem setEntries_completions (x : List Entry) :
    (s.setEntries x).completions = s.completions := rfl
@[simp] theorem setEntries_watch (x : List Entry) : (s.setEntries x).watch = s.watch := rfl
@[simp] theorem setEntries_leases (x : List Entry) : (s.setEntries x).leases = s.leases := rfl
@[simp] theorem setEntries_ports (x : List Entry) : (s.setEntries x).ports = s.ports := rfl
@[simp] theorem setEntries_pending (x : List Entry) : (s.setEntries x).pending = s.pending := rfl

/-! ## Reading a numbered part -/

@[simp] theorem port_setPort (p : PortId) (x : PortController) : (s.setPort p x).port p = x :=
  Table.read_write_same _ _ _

theorem port_setPort_of_ne {p k : PortId} (x : PortController) (h : k ≠ p) :
    (s.setPort p x).port k = s.port k :=
  Table.read_write_of_ne _ _ h

@[simp] theorem cq_setCq (p : PortId) (x : List Completion) : (s.setCq p x).cq p = x :=
  Table.read_write_same _ _ _

theorem cq_setCq_of_ne {p k : PortId} (x : List Completion) (h : k ≠ p) :
    (s.setCq p x).cq k = s.cq k :=
  Table.read_write_of_ne _ _ h

@[simp] theorem portWatch_setPortWatch (p : PortId) (x : PortWatch) : (s.setPortWatch p x).portWatch p = x :=
  Table.read_write_same _ _ _

theorem portWatch_setPortWatch_of_ne {p k : PortId} (x : PortWatch) (h : k ≠ p) :
    (s.setPortWatch p x).portWatch k = s.portWatch k :=
  Table.read_write_of_ne _ _ h

@[simp] theorem schedule_setSchedule (i : ScheduleId) (x : Option Schedule) : (s.setSchedule i x).schedule i = x :=
  Table.read_write_same _ _ _

theorem schedule_setSchedule_of_ne {i k : ScheduleId} (x : Option Schedule) (h : k ≠ i) :
    (s.setSchedule i x).schedule k = s.schedule k :=
  Table.read_write_of_ne _ _ h

@[simp] theorem result_setResult (c : ChannelId) (x : ResultRecord) : (s.setResult c x).result c = x :=
  Table.read_write_same _ _ _

theorem result_setResult_of_ne {c k : ChannelId} (x : ResultRecord) (h : k ≠ c) :
    (s.setResult c x).result k = s.result k :=
  Table.read_write_of_ne _ _ h

@[simp] theorem group_setGroup (g : GroupId) (x : GroupLease) : (s.setGroup g x).group g = x :=
  Table.read_write_same _ _ _

theorem group_setGroup_of_ne {g k : GroupId} (x : GroupLease) (h : k ≠ g) :
    (s.setGroup g x).group k = s.group k :=
  Table.read_write_of_ne _ _ h

@[simp] theorem health_setHealth (r : RefId) (x : RefHealth) : (s.setHealth r x).health r = x :=
  PerRef.read_write_same _ _ _

@[simp] theorem setPort_setPort (p : PortId) (x y : PortController) :
    (s.setPort p x).setPort p y = s.setPort p y := by
  simp [State.setPort, State.setPorts]

@[simp] theorem setPort_port (p : PortId) : s.setPort p (s.port p) = s := by
  simp [State.setPort, State.setPorts, State.port]

/-- Two states with equal fields are equal. -/
theorem ext_fields {s t : State} (h₁ : t.selection = s.selection) (h₂ : t.config = s.config)
    (h₃ : t.hubTime = s.hubTime) (h₄ : t.inReset = s.inReset) (h₅ : t.engine = s.engine)
    (h₆ : t.queue = s.queue) (h₇ : t.schedules = s.schedules) (h₈ : t.results = s.results)
    (h₉ : t.completions = s.completions) (h₁₀ : t.watch = s.watch) (h₁₁ : t.leases = s.leases)
    (h₁₂ : t.ports = s.ports) (h₁₃ : t.pending = s.pending) : t = s := by
  cases s; cases t; simp_all

end State
end Sys2Proof.Machine
end

