-- ==== Sys2Proof/Laws/Frames.lean ====
section
/-!
SUPPORT. What each shared operation leaves as it was: one lemma per operation and untouched field.
-/
namespace Sys2Proof.Machine
namespace State

variable (s : State)


/-! publish -/

@[simp] theorem publish_selection (c : ChannelId) (o : Outcome) :
    (s.publish c o).selection = s.selection := rfl
@[simp] theorem publish_config (c : ChannelId) (o : Outcome) : (s.publish c o).config = s.config := rfl
@[simp] theorem publish_hubTime (c : ChannelId) (o : Outcome) : (s.publish c o).hubTime = s.hubTime := rfl
@[simp] theorem publish_inReset (c : ChannelId) (o : Outcome) : (s.publish c o).inReset = s.inReset := rfl
@[simp] theorem publish_engine (c : ChannelId) (o : Outcome) : (s.publish c o).engine = s.engine := rfl
@[simp] theorem publish_queue (c : ChannelId) (o : Outcome) : (s.publish c o).queue = s.queue := rfl
@[simp] theorem publish_schedules (c : ChannelId) (o : Outcome) :
    (s.publish c o).schedules = s.schedules := rfl
@[simp] theorem publish_completions (c : ChannelId) (o : Outcome) :
    (s.publish c o).completions = s.completions := rfl
@[simp] theorem publish_watch (c : ChannelId) (o : Outcome) : (s.publish c o).watch = s.watch := rfl
@[simp] theorem publish_leases (c : ChannelId) (o : Outcome) : (s.publish c o).leases = s.leases := rfl
@[simp] theorem publish_ports (c : ChannelId) (o : Outcome) : (s.publish c o).ports = s.ports := rfl
@[simp] theorem publish_pending (c : ChannelId) (o : Outcome) : (s.publish c o).pending = s.pending := rfl

/-! evaluateWatches -/

@[simp] theorem evaluateWatches_selection (c : ChannelId) (o : Outcome) :
    (s.evaluateWatches c o).selection = s.selection := rfl
@[simp] theorem evaluateWatches_config (c : ChannelId) (o : Outcome) :
    (s.evaluateWatches c o).config = s.config := rfl
@[simp] theorem evaluateWatches_hubTime (c : ChannelId) (o : Outcome) :
    (s.evaluateWatches c o).hubTime = s.hubTime := rfl
@[simp] theorem evaluateWatches_inReset (c : ChannelId) (o : Outcome) :
    (s.evaluateWatches c o).inReset = s.inReset := rfl
@[simp] theorem evaluateWatches_engine (c : ChannelId) (o : Outcome) :
    (s.evaluateWatches c o).engine = s.engine := rfl
@[simp] theorem evaluateWatches_queue (c : ChannelId) (o : Outcome) :
    (s.evaluateWatches c o).queue = s.queue := rfl
@[simp] theorem evaluateWatches_schedules (c : ChannelId) (o : Outcome) :
    (s.evaluateWatches c o).schedules = s.schedules := rfl
@[simp] theorem evaluateWatches_results (c : ChannelId) (o : Outcome) :
    (s.evaluateWatches c o).results = s.results := rfl
@[simp] theorem evaluateWatches_completions (c : ChannelId) (o : Outcome) :
    (s.evaluateWatches c o).completions = s.completions := rfl
@[simp] theorem evaluateWatches_leases (c : ChannelId) (o : Outcome) :
    (s.evaluateWatches c o).leases = s.leases := rfl
@[simp] theorem evaluateWatches_ports (c : ChannelId) (o : Outcome) :
    (s.evaluateWatches c o).ports = s.ports := rfl
@[simp] theorem evaluateWatches_pending (c : ChannelId) (o : Outcome) :
    (s.evaluateWatches c o).pending = s.pending := rfl

/-! place -/

@[simp] theorem place_selection (p : PortId) (r : Completion) : (s.place p r).selection = s.selection := rfl
@[simp] theorem place_config (p : PortId) (r : Completion) : (s.place p r).config = s.config := rfl
@[simp] theorem place_hubTime (p : PortId) (r : Completion) : (s.place p r).hubTime = s.hubTime := rfl
@[simp] theorem place_inReset (p : PortId) (r : Completion) : (s.place p r).inReset = s.inReset := rfl
@[simp] theorem place_engine (p : PortId) (r : Completion) : (s.place p r).engine = s.engine := rfl
@[simp] theorem place_queue (p : PortId) (r : Completion) : (s.place p r).queue = s.queue := rfl
@[simp] theorem place_schedules (p : PortId) (r : Completion) : (s.place p r).schedules = s.schedules := rfl
@[simp] theorem place_results (p : PortId) (r : Completion) : (s.place p r).results = s.results := rfl
@[simp] theorem place_watch (p : PortId) (r : Completion) : (s.place p r).watch = s.watch := rfl
@[simp] theorem place_leases (p : PortId) (r : Completion) : (s.place p r).leases = s.leases := rfl
@[simp] theorem place_ports (p : PortId) (r : Completion) : (s.place p r).ports = s.ports := rfl
@[simp] theorem place_pending (p : PortId) (r : Completion) : (s.place p r).pending = s.pending := rfl

/-! countRun -/

@[simp] theorem countRun_selection (o : Origin) :
    (s.countRun o).selection = s.selection := by
  cases o <;> rfl
@[simp] theorem countRun_config (o : Origin) :
    (s.countRun o).config = s.config := by
  cases o <;> rfl
@[simp] theorem countRun_hubTime (o : Origin) :
    (s.countRun o).hubTime = s.hubTime := by
  cases o <;> rfl
@[simp] theorem countRun_inReset (o : Origin) :
    (s.countRun o).inReset = s.inReset := by
  cases o <;> rfl
@[simp] theorem countRun_engine (o : Origin) :
    (s.countRun o).engine = s.engine := by
  cases o <;> rfl
@[simp] theorem countRun_queue (o : Origin) :
    (s.countRun o).queue = s.queue := by
  cases o <;> rfl
@[simp] theorem countRun_results (o : Origin) :
    (s.countRun o).results = s.results := by
  cases o <;> rfl
@[simp] theorem countRun_completions (o : Origin) :
    (s.countRun o).completions = s.completions := by
  cases o <;> rfl
@[simp] theorem countRun_watch (o : Origin) :
    (s.countRun o).watch = s.watch := by
  cases o <;> rfl
@[simp] theorem countRun_leases (o : Origin) :
    (s.countRun o).leases = s.leases := by
  cases o <;> rfl
@[simp] theorem countRun_ports (o : Origin) :
    (s.countRun o).ports = s.ports := by
  cases o <;> rfl
@[simp] theorem countRun_pending (o : Origin) :
    (s.countRun o).pending = s.pending := by
  cases o <;> rfl

/-! deliver -/

@[simp] theorem deliver_selection (e : Entry) (ending : RequestEnd) :
    (s.deliver e ending).selection = s.selection := by
  unfold State.deliver
  induction e.waiters generalizing s with
  | nil => rfl
  | cons w rest ih => rw [List.foldl_cons, ih]; simp [State.deliverTo]
@[simp] theorem deliver_config (e : Entry) (ending : RequestEnd) :
    (s.deliver e ending).config = s.config := by
  unfold State.deliver
  induction e.waiters generalizing s with
  | nil => rfl
  | cons w rest ih => rw [List.foldl_cons, ih]; simp [State.deliverTo]
@[simp] theorem deliver_hubTime (e : Entry) (ending : RequestEnd) :
    (s.deliver e ending).hubTime = s.hubTime := by
  unfold State.deliver
  induction e.waiters generalizing s with
  | nil => rfl
  | cons w rest ih => rw [List.foldl_cons, ih]; simp [State.deliverTo]
@[simp] theorem deliver_inReset (e : Entry) (ending : RequestEnd) :
    (s.deliver e ending).inReset = s.inReset := by
  unfold State.deliver
  induction e.waiters generalizing s with
  | nil => rfl
  | cons w rest ih => rw [List.foldl_cons, ih]; simp [State.deliverTo]
@[simp] theorem deliver_engine (e : Entry) (ending : RequestEnd) :
    (s.deliver e ending).engine = s.engine := by
  unfold State.deliver
  induction e.waiters generalizing s with
  | nil => rfl
  | cons w rest ih => rw [List.foldl_cons, ih]; simp [State.deliverTo]
@[simp] theorem deliver_queue (e : Entry) (ending : RequestEnd) :
    (s.deliver e ending).queue = s.queue := by
  unfold State.deliver
  induction e.waiters generalizing s with
  | nil => rfl
  | cons w rest ih => rw [List.foldl_cons, ih]; simp [State.deliverTo]
@[simp] theorem deliver_results (e : Entry) (ending : RequestEnd) :
    (s.deliver e ending).results = s.results := by
  unfold State.deliver
  induction e.waiters generalizing s with
  | nil => rfl
  | cons w rest ih => rw [List.foldl_cons, ih]; simp [State.deliverTo]
@[simp] theorem deliver_watch (e : Entry) (ending : RequestEnd) :
    (s.deliver e ending).watch = s.watch := by
  unfold State.deliver
  induction e.waiters generalizing s with
  | nil => rfl
  | cons w rest ih => rw [List.foldl_cons, ih]; simp [State.deliverTo]
@[simp] theorem deliver_leases (e : Entry) (ending : RequestEnd) :
    (s.deliver e ending).leases = s.leases := by
  unfold State.deliver
  induction e.waiters generalizing s with
  | nil => rfl
  | cons w rest ih => rw [List.foldl_cons, ih]; simp [State.deliverTo]
@[simp] theorem deliver_ports (e : Entry) (ending : RequestEnd) :
    (s.deliver e ending).ports = s.ports := by
  unfold State.deliver
  induction e.waiters generalizing s with
  | nil => rfl
  | cons w rest ih => rw [List.foldl_cons, ih]; simp [State.deliverTo]
@[simp] theorem deliver_pending (e : Entry) (ending : RequestEnd) :
    (s.deliver e ending).pending = s.pending := by
  unfold State.deliver
  induction e.waiters generalizing s with
  | nil => rfl
  | cons w rest ih => rw [List.foldl_cons, ih]; simp [State.deliverTo]

/-! removeEntry -/

@[simp] theorem removeEntry_selection (e : Entry) : (s.removeEntry e).selection = s.selection := rfl
@[simp] theorem removeEntry_config (e : Entry) : (s.removeEntry e).config = s.config := rfl
@[simp] theorem removeEntry_hubTime (e : Entry) : (s.removeEntry e).hubTime = s.hubTime := rfl
@[simp] theorem removeEntry_inReset (e : Entry) : (s.removeEntry e).inReset = s.inReset := rfl
@[simp] theorem removeEntry_engine (e : Entry) : (s.removeEntry e).engine = s.engine := rfl
@[simp] theorem removeEntry_schedules (e : Entry) : (s.removeEntry e).schedules = s.schedules := rfl
@[simp] theorem removeEntry_results (e : Entry) : (s.removeEntry e).results = s.results := rfl
@[simp] theorem removeEntry_completions (e : Entry) : (s.removeEntry e).completions = s.completions := rfl
@[simp] theorem removeEntry_watch (e : Entry) : (s.removeEntry e).watch = s.watch := rfl
@[simp] theorem removeEntry_leases (e : Entry) : (s.removeEntry e).leases = s.leases := rfl
@[simp] theorem removeEntry_ports (e : Entry) : (s.removeEntry e).ports = s.ports := rfl
@[simp] theorem removeEntry_pending (e : Entry) : (s.removeEntry e).pending = s.pending := rfl

/-! stopEngine -/

@[simp] theorem stopEngine_config : (s.stopEngine).config = s.config := rfl
@[simp] theorem stopEngine_hubTime : (s.stopEngine).hubTime = s.hubTime := rfl
@[simp] theorem stopEngine_inReset : (s.stopEngine).inReset = s.inReset := rfl
@[simp] theorem stopEngine_queue : (s.stopEngine).queue = s.queue := rfl
@[simp] theorem stopEngine_schedules : (s.stopEngine).schedules = s.schedules := rfl
@[simp] theorem stopEngine_results : (s.stopEngine).results = s.results := rfl
@[simp] theorem stopEngine_completions : (s.stopEngine).completions = s.completions := rfl
@[simp] theorem stopEngine_watch : (s.stopEngine).watch = s.watch := rfl
@[simp] theorem stopEngine_leases : (s.stopEngine).leases = s.leases := rfl
@[simp] theorem stopEngine_ports : (s.stopEngine).ports = s.ports := rfl
@[simp] theorem stopEngine_pending : (s.stopEngine).pending = s.pending := rfl

/-! removeWaiters -/

@[simp] theorem removeWaiters_config (gone : Waiter → Bool) :
    (s.removeWaiters gone).config = s.config := by
  unfold State.removeWaiters; split <;> simp
@[simp] theorem removeWaiters_hubTime (gone : Waiter → Bool) :
    (s.removeWaiters gone).hubTime = s.hubTime := by
  unfold State.removeWaiters; split <;> simp
@[simp] theorem removeWaiters_inReset (gone : Waiter → Bool) :
    (s.removeWaiters gone).inReset = s.inReset := by
  unfold State.removeWaiters; split <;> simp
@[simp] theorem removeWaiters_schedules (gone : Waiter → Bool) :
    (s.removeWaiters gone).schedules = s.schedules := by
  unfold State.removeWaiters; split <;> simp
@[simp] theorem removeWaiters_results (gone : Waiter → Bool) :
    (s.removeWaiters gone).results = s.results := by
  unfold State.removeWaiters; split <;> simp
@[simp] theorem removeWaiters_completions (gone : Waiter → Bool) :
    (s.removeWaiters gone).completions = s.completions := by
  unfold State.removeWaiters; split <;> simp
@[simp] theorem removeWaiters_watch (gone : Waiter → Bool) :
    (s.removeWaiters gone).watch = s.watch := by
  unfold State.removeWaiters; split <;> simp
@[simp] theorem removeWaiters_leases (gone : Waiter → Bool) :
    (s.removeWaiters gone).leases = s.leases := by
  unfold State.removeWaiters; split <;> simp
@[simp] theorem removeWaiters_ports (gone : Waiter → Bool) :
    (s.removeWaiters gone).ports = s.ports := by
  unfold State.removeWaiters; split <;> simp
@[simp] theorem removeWaiters_pending (gone : Waiter → Bool) :
    (s.removeWaiters gone).pending = s.pending := by
  unfold State.removeWaiters; split <;> simp

/-! completeEntry -/

@[simp] theorem completeEntry_selection (e : Entry) (o : Outcome) :
    (s.completeEntry e o).selection = s.selection := by
  simp [State.completeEntry]
@[simp] theorem completeEntry_config (e : Entry) (o : Outcome) :
    (s.completeEntry e o).config = s.config := by
  simp [State.completeEntry]
@[simp] theorem completeEntry_hubTime (e : Entry) (o : Outcome) :
    (s.completeEntry e o).hubTime = s.hubTime := by
  simp [State.completeEntry]
@[simp] theorem completeEntry_inReset (e : Entry) (o : Outcome) :
    (s.completeEntry e o).inReset = s.inReset := by
  simp [State.completeEntry]
@[simp] theorem completeEntry_engine (e : Entry) (o : Outcome) :
    (s.completeEntry e o).engine = s.engine := by
  simp [State.completeEntry]
@[simp] theorem completeEntry_leases (e : Entry) (o : Outcome) :
    (s.completeEntry e o).leases = s.leases := by
  simp [State.completeEntry]
@[simp] theorem completeEntry_ports (e : Entry) (o : Outcome) :
    (s.completeEntry e o).ports = s.ports := by
  simp [State.completeEntry]
@[simp] theorem completeEntry_pending (e : Entry) (o : Outcome) :
    (s.completeEntry e o).pending = s.pending := by
  simp [State.completeEntry]

/-! startConversion -/

@[simp] theorem startConversion_config (e : Entry) : (s.startConversion e).config = s.config := rfl
@[simp] theorem startConversion_hubTime (e : Entry) : (s.startConversion e).hubTime = s.hubTime := rfl
@[simp] theorem startConversion_inReset (e : Entry) : (s.startConversion e).inReset = s.inReset := rfl
@[simp] theorem startConversion_schedules (e : Entry) : (s.startConversion e).schedules = s.schedules := rfl
@[simp] theorem startConversion_results (e : Entry) : (s.startConversion e).results = s.results := rfl
@[simp] theorem startConversion_completions (e : Entry) :
    (s.startConversion e).completions = s.completions := rfl
@[simp] theorem startConversion_watch (e : Entry) : (s.startConversion e).watch = s.watch := rfl
@[simp] theorem startConversion_leases (e : Entry) : (s.startConversion e).leases = s.leases := rfl
@[simp] theorem startConversion_ports (e : Entry) : (s.startConversion e).ports = s.ports := rfl
@[simp] theorem startConversion_pending (e : Entry) : (s.startConversion e).pending = s.pending := rfl

/-! runArbiter -/

theorem arbiterRuns_config (n : Nat) (s : State) : (arbiterRuns n s).config = s.config := by
  induction n generalizing s with
  | zero => rfl
  | succ n ih =>
    unfold arbiterRuns
    split
    · rfl
    · split
      · rfl
      · split
        · rw [ih]; simp
        · simp

@[simp] theorem runArbiter_config : s.runArbiter.config = s.config := arbiterRuns_config _ s

theorem arbiterRuns_hubTime (n : Nat) (s : State) : (arbiterRuns n s).hubTime = s.hubTime := by
  induction n generalizing s with
  | zero => rfl
  | succ n ih =>
    unfold arbiterRuns
    split
    · rfl
    · split
      · rfl
      · split
        · rw [ih]; simp
        · simp

@[simp] theorem runArbiter_hubTime : s.runArbiter.hubTime = s.hubTime := arbiterRuns_hubTime _ s

theorem arbiterRuns_inReset (n : Nat) (s : State) : (arbiterRuns n s).inReset = s.inReset := by
  induction n generalizing s with
  | zero => rfl
  | succ n ih =>
    unfold arbiterRuns
    split
    · rfl
    · split
      · rfl
      · split
        · rw [ih]; simp
        · simp

@[simp] theorem runArbiter_inReset : s.runArbiter.inReset = s.inReset := arbiterRuns_inReset _ s

theorem arbiterRuns_leases (n : Nat) (s : State) : (arbiterRuns n s).leases = s.leases := by
  induction n generalizing s with
  | zero => rfl
  | succ n ih =>
    unfold arbiterRuns
    split
    · rfl
    · split
      · rfl
      · split
        · rw [ih]; simp
        · simp

@[simp] theorem runArbiter_leases : s.runArbiter.leases = s.leases := arbiterRuns_leases _ s

theorem arbiterRuns_ports (n : Nat) (s : State) : (arbiterRuns n s).ports = s.ports := by
  induction n generalizing s with
  | zero => rfl
  | succ n ih =>
    unfold arbiterRuns
    split
    · rfl
    · split
      · rfl
      · split
        · rw [ih]; simp
        · simp

@[simp] theorem runArbiter_ports : s.runArbiter.ports = s.ports := arbiterRuns_ports _ s

theorem arbiterRuns_pending (n : Nat) (s : State) : (arbiterRuns n s).pending = s.pending := by
  induction n generalizing s with
  | zero => rfl
  | succ n ih =>
    unfold arbiterRuns
    split
    · rfl
    · split
      · rfl
      · split
        · rw [ih]; simp
        · simp

@[simp] theorem runArbiter_pending : s.runArbiter.pending = s.pending := arbiterRuns_pending _ s


/-! finish -/

@[simp] theorem finish_config (c : Conversion) (o : Outcome) :
    (s.finish c o).config = s.config := by
  unfold State.finish; dsimp only; split <;> simp
@[simp] theorem finish_hubTime (c : Conversion) (o : Outcome) :
    (s.finish c o).hubTime = s.hubTime := by
  unfold State.finish; dsimp only; split <;> simp
@[simp] theorem finish_inReset (c : Conversion) (o : Outcome) :
    (s.finish c o).inReset = s.inReset := by
  unfold State.finish; dsimp only; split <;> simp
@[simp] theorem finish_leases (c : Conversion) (o : Outcome) :
    (s.finish c o).leases = s.leases := by
  unfold State.finish; dsimp only; split <;> simp
@[simp] theorem finish_ports (c : Conversion) (o : Outcome) :
    (s.finish c o).ports = s.ports := by
  unfold State.finish; dsimp only; split <;> simp
@[simp] theorem finish_pending (c : Conversion) (o : Outcome) :
    (s.finish c o).pending = s.pending := by
  unfold State.finish; dsimp only; split <;> simp

/-! enterSettleSens -/

@[simp] theorem enterSettleSens_config (c : Conversion) (ref : Measured) :
    (s.enterSettleSens c ref).config = s.config := rfl
@[simp] theorem enterSettleSens_hubTime (c : Conversion) (ref : Measured) :
    (s.enterSettleSens c ref).hubTime = s.hubTime := rfl
@[simp] theorem enterSettleSens_inReset (c : Conversion) (ref : Measured) :
    (s.enterSettleSens c ref).inReset = s.inReset := rfl
@[simp] theorem enterSettleSens_queue (c : Conversion) (ref : Measured) :
    (s.enterSettleSens c ref).queue = s.queue := rfl
@[simp] theorem enterSettleSens_schedules (c : Conversion) (ref : Measured) :
    (s.enterSettleSens c ref).schedules = s.schedules := rfl
@[simp] theorem enterSettleSens_results (c : Conversion) (ref : Measured) :
    (s.enterSettleSens c ref).results = s.results := rfl
@[simp] theorem enterSettleSens_completions (c : Conversion) (ref : Measured) :
    (s.enterSettleSens c ref).completions = s.completions := rfl
@[simp] theorem enterSettleSens_watch (c : Conversion) (ref : Measured) :
    (s.enterSettleSens c ref).watch = s.watch := rfl
@[simp] theorem enterSettleSens_leases (c : Conversion) (ref : Measured) :
    (s.enterSettleSens c ref).leases = s.leases := rfl
@[simp] theorem enterSettleSens_ports (c : Conversion) (ref : Measured) :
    (s.enterSettleSens c ref).ports = s.ports := rfl
@[simp] theorem enterSettleSens_pending (c : Conversion) (ref : Measured) :
    (s.enterSettleSens c ref).pending = s.pending := rfl

/-! openGate -/

@[simp] theorem openGate_selection (c : Conversion) (bound : Time) :
    (s.openGate c bound).selection = s.selection := rfl
@[simp] theorem openGate_config (c : Conversion) (bound : Time) :
    (s.openGate c bound).config = s.config := rfl
@[simp] theorem openGate_hubTime (c : Conversion) (bound : Time) :
    (s.openGate c bound).hubTime = s.hubTime := rfl
@[simp] theorem openGate_inReset (c : Conversion) (bound : Time) :
    (s.openGate c bound).inReset = s.inReset := rfl
@[simp] theorem openGate_queue (c : Conversion) (bound : Time) :
    (s.openGate c bound).queue = s.queue := rfl
@[simp] theorem openGate_schedules (c : Conversion) (bound : Time) :
    (s.openGate c bound).schedules = s.schedules := rfl
@[simp] theorem openGate_results (c : Conversion) (bound : Time) :
    (s.openGate c bound).results = s.results := rfl
@[simp] theorem openGate_completions (c : Conversion) (bound : Time) :
    (s.openGate c bound).completions = s.completions := rfl
@[simp] theorem openGate_watch (c : Conversion) (bound : Time) :
    (s.openGate c bound).watch = s.watch := rfl
@[simp] theorem openGate_leases (c : Conversion) (bound : Time) :
    (s.openGate c bound).leases = s.leases := rfl
@[simp] theorem openGate_ports (c : Conversion) (bound : Time) :
    (s.openGate c bound).ports = s.ports := rfl
@[simp] theorem openGate_pending (c : Conversion) (bound : Time) :
    (s.openGate c bound).pending = s.pending := rfl

@[simp] theorem openGate_engine (c : Conversion) (bound : Time) :
    (s.openGate c bound).engine =
      { s.engine with
        conversion := some { c with phase := .count s.hubTime (s.hubTime + Config.stallLimit) bound }
        edgeCounter := 0 } := rfl

/-! endSettle -/

@[simp] theorem endSettle_selection (c : Conversion) : (s.endSettle c).selection = s.selection := by
  unfold State.endSettle; split <;> rfl
@[simp] theorem endSettle_config (c : Conversion) : (s.endSettle c).config = s.config := by
  unfold State.endSettle; split <;> rfl
@[simp] theorem endSettle_hubTime (c : Conversion) : (s.endSettle c).hubTime = s.hubTime := by
  unfold State.endSettle; split <;> rfl
@[simp] theorem endSettle_inReset (c : Conversion) : (s.endSettle c).inReset = s.inReset := by
  unfold State.endSettle; split <;> rfl
@[simp] theorem endSettle_queue (c : Conversion) : (s.endSettle c).queue = s.queue := by
  unfold State.endSettle; split <;> rfl
@[simp] theorem endSettle_schedules (c : Conversion) : (s.endSettle c).schedules = s.schedules := by
  unfold State.endSettle; split <;> rfl
@[simp] theorem endSettle_results (c : Conversion) : (s.endSettle c).results = s.results := by
  unfold State.endSettle; split <;> rfl
@[simp] theorem endSettle_completions (c : Conversion) : (s.endSettle c).completions = s.completions := by
  unfold State.endSettle; split <;> rfl
@[simp] theorem endSettle_watch (c : Conversion) : (s.endSettle c).watch = s.watch := by
  unfold State.endSettle; split <;> rfl
@[simp] theorem endSettle_leases (c : Conversion) : (s.endSettle c).leases = s.leases := by
  unfold State.endSettle; split <;> rfl
@[simp] theorem endSettle_ports (c : Conversion) : (s.endSettle c).ports = s.ports := by
  unfold State.endSettle; split <;> rfl
@[simp] theorem endSettle_pending (c : Conversion) : (s.endSettle c).pending = s.pending := by
  unfold State.endSettle; split <;> rfl

/-! fillCache -/

@[simp] theorem fillCache_selection (r : RefId) (count : Tri) (gateLength : Half) :
    (s.fillCache r count gateLength).selection = s.selection := rfl
@[simp] theorem fillCache_config (r : RefId) (count : Tri) (gateLength : Half) :
    (s.fillCache r count gateLength).config = s.config := rfl
@[simp] theorem fillCache_hubTime (r : RefId) (count : Tri) (gateLength : Half) :
    (s.fillCache r count gateLength).hubTime = s.hubTime := rfl
@[simp] theorem fillCache_inReset (r : RefId) (count : Tri) (gateLength : Half) :
    (s.fillCache r count gateLength).inReset = s.inReset := rfl
@[simp] theorem fillCache_queue (r : RefId) (count : Tri) (gateLength : Half) :
    (s.fillCache r count gateLength).queue = s.queue := rfl
@[simp] theorem fillCache_schedules (r : RefId) (count : Tri) (gateLength : Half) :
    (s.fillCache r count gateLength).schedules = s.schedules := rfl
@[simp] theorem fillCache_results (r : RefId) (count : Tri) (gateLength : Half) :
    (s.fillCache r count gateLength).results = s.results := rfl
@[simp] theorem fillCache_completions (r : RefId) (count : Tri) (gateLength : Half) :
    (s.fillCache r count gateLength).completions = s.completions := rfl
@[simp] theorem fillCache_watch (r : RefId) (count : Tri) (gateLength : Half) :
    (s.fillCache r count gateLength).watch = s.watch := rfl
@[simp] theorem fillCache_leases (r : RefId) (count : Tri) (gateLength : Half) :
    (s.fillCache r count gateLength).leases = s.leases := rfl
@[simp] theorem fillCache_ports (r : RefId) (count : Tri) (gateLength : Half) :
    (s.fillCache r count gateLength).ports = s.ports := rfl
@[simp] theorem fillCache_pending (r : RefId) (count : Tri) (gateLength : Half) :
    (s.fillCache r count gateLength).pending = s.pending := rfl

/-! recordFault -/

@[simp] theorem recordFault_selection (r : RefId) : (s.recordFault r).selection = s.selection := rfl
@[simp] theorem recordFault_config (r : RefId) : (s.recordFault r).config = s.config := rfl
@[simp] theorem recordFault_hubTime (r : RefId) : (s.recordFault r).hubTime = s.hubTime := rfl
@[simp] theorem recordFault_inReset (r : RefId) : (s.recordFault r).inReset = s.inReset := rfl
@[simp] theorem recordFault_queue (r : RefId) : (s.recordFault r).queue = s.queue := rfl
@[simp] theorem recordFault_schedules (r : RefId) : (s.recordFault r).schedules = s.schedules := rfl
@[simp] theorem recordFault_results (r : RefId) : (s.recordFault r).results = s.results := rfl
@[simp] theorem recordFault_completions (r : RefId) : (s.recordFault r).completions = s.completions := rfl
@[simp] theorem recordFault_watch (r : RefId) : (s.recordFault r).watch = s.watch := rfl
@[simp] theorem recordFault_leases (r : RefId) : (s.recordFault r).leases = s.leases := rfl
@[simp] theorem recordFault_ports (r : RefId) : (s.recordFault r).ports = s.ports := rfl
@[simp] theorem recordFault_pending (r : RefId) : (s.recordFault r).pending = s.pending := rfl

/-! judgeReference -/

@[simp] theorem judgeReference_config (c : Conversion) (how : PhaseEnd) (m : Measured) :
    (s.judgeReference c how m).config = s.config := by
  unfold State.judgeReference
  split
  · split <;> simp
  · simp
@[simp] theorem judgeReference_hubTime (c : Conversion) (how : PhaseEnd) (m : Measured) :
    (s.judgeReference c how m).hubTime = s.hubTime := by
  unfold State.judgeReference
  split
  · split <;> simp
  · simp
@[simp] theorem judgeReference_inReset (c : Conversion) (how : PhaseEnd) (m : Measured) :
    (s.judgeReference c how m).inReset = s.inReset := by
  unfold State.judgeReference
  split
  · split <;> simp
  · simp
@[simp] theorem judgeReference_leases (c : Conversion) (how : PhaseEnd) (m : Measured) :
    (s.judgeReference c how m).leases = s.leases := by
  unfold State.judgeReference
  split
  · split <;> simp
  · simp
@[simp] theorem judgeReference_ports (c : Conversion) (how : PhaseEnd) (m : Measured) :
    (s.judgeReference c how m).ports = s.ports := by
  unfold State.judgeReference
  split
  · split <;> simp
  · simp
@[simp] theorem judgeReference_pending (c : Conversion) (how : PhaseEnd) (m : Measured) :
    (s.judgeReference c how m).pending = s.pending := by
  unfold State.judgeReference
  split
  · split <;> simp
  · simp

/-! judgeSensor -/

@[simp] theorem judgeSensor_config (c : Conversion) (how : PhaseEnd) (ref sens : Measured) :
    (s.judgeSensor c how ref sens).config = s.config := by
  simp [State.judgeSensor]
@[simp] theorem judgeSensor_hubTime (c : Conversion) (how : PhaseEnd) (ref sens : Measured) :
    (s.judgeSensor c how ref sens).hubTime = s.hubTime := by
  simp [State.judgeSensor]
@[simp] theorem judgeSensor_inReset (c : Conversion) (how : PhaseEnd) (ref sens : Measured) :
    (s.judgeSensor c how ref sens).inReset = s.inReset := by
  simp [State.judgeSensor]
@[simp] theorem judgeSensor_leases (c : Conversion) (how : PhaseEnd) (ref sens : Measured) :
    (s.judgeSensor c how ref sens).leases = s.leases := by
  simp [State.judgeSensor]
@[simp] theorem judgeSensor_ports (c : Conversion) (how : PhaseEnd) (ref sens : Measured) :
    (s.judgeSensor c how ref sens).ports = s.ports := by
  simp [State.judgeSensor]
@[simp] theorem judgeSensor_pending (c : Conversion) (how : PhaseEnd) (ref sens : Measured) :
    (s.judgeSensor c how ref sens).pending = s.pending := by
  simp [State.judgeSensor]

/-! endCount -/

@[simp] theorem endCount_config (c : Conversion) (how : PhaseEnd) (m : Measured) :
    (s.endCount c how m).config = s.config := by
  unfold State.endCount; split <;> simp
@[simp] theorem endCount_hubTime (c : Conversion) (how : PhaseEnd) (m : Measured) :
    (s.endCount c how m).hubTime = s.hubTime := by
  unfold State.endCount; split <;> simp
@[simp] theorem endCount_inReset (c : Conversion) (how : PhaseEnd) (m : Measured) :
    (s.endCount c how m).inReset = s.inReset := by
  unfold State.endCount; split <;> simp
@[simp] theorem endCount_leases (c : Conversion) (how : PhaseEnd) (m : Measured) :
    (s.endCount c how m).leases = s.leases := by
  unfold State.endCount; split <;> simp
@[simp] theorem endCount_ports (c : Conversion) (how : PhaseEnd) (m : Measured) :
    (s.endCount c how m).ports = s.ports := by
  unfold State.endCount; split <;> simp
@[simp] theorem endCount_pending (c : Conversion) (how : PhaseEnd) (m : Measured) :
    (s.endCount c how m).pending = s.pending := by
  unfold State.endCount; split <;> simp

/-! gateTimeout -/

@[simp] theorem gateTimeout_config (c : Conversion) :
    (s.gateTimeout c).config = s.config := by
  simp [State.gateTimeout]
@[simp] theorem gateTimeout_hubTime (c : Conversion) :
    (s.gateTimeout c).hubTime = s.hubTime := by
  simp [State.gateTimeout]
@[simp] theorem gateTimeout_inReset (c : Conversion) :
    (s.gateTimeout c).inReset = s.inReset := by
  simp [State.gateTimeout]
@[simp] theorem gateTimeout_leases (c : Conversion) :
    (s.gateTimeout c).leases = s.leases := by
  simp [State.gateTimeout]
@[simp] theorem gateTimeout_ports (c : Conversion) :
    (s.gateTimeout c).ports = s.ports := by
  simp [State.gateTimeout]
@[simp] theorem gateTimeout_pending (c : Conversion) :
    (s.gateTimeout c).pending = s.pending := by
  simp [State.gateTimeout]

/-! enqueue -/

@[simp] theorem enqueue_selection (c : ChannelId) (gate : GateSource) (w : Waiter) :
    (s.enqueue c gate w).selection = s.selection := by
  unfold State.enqueue; split <;> simp
@[simp] theorem enqueue_config (c : ChannelId) (gate : GateSource) (w : Waiter) :
    (s.enqueue c gate w).config = s.config := by
  unfold State.enqueue; split <;> simp
@[simp] theorem enqueue_hubTime (c : ChannelId) (gate : GateSource) (w : Waiter) :
    (s.enqueue c gate w).hubTime = s.hubTime := by
  unfold State.enqueue; split <;> simp
@[simp] theorem enqueue_inReset (c : ChannelId) (gate : GateSource) (w : Waiter) :
    (s.enqueue c gate w).inReset = s.inReset := by
  unfold State.enqueue; split <;> simp
@[simp] theorem enqueue_engine (c : ChannelId) (gate : GateSource) (w : Waiter) :
    (s.enqueue c gate w).engine = s.engine := by
  unfold State.enqueue; split <;> simp
@[simp] theorem enqueue_schedules (c : ChannelId) (gate : GateSource) (w : Waiter) :
    (s.enqueue c gate w).schedules = s.schedules := by
  unfold State.enqueue; split <;> simp
@[simp] theorem enqueue_results (c : ChannelId) (gate : GateSource) (w : Waiter) :
    (s.enqueue c gate w).results = s.results := by
  unfold State.enqueue; split <;> simp
@[simp] theorem enqueue_completions (c : ChannelId) (gate : GateSource) (w : Waiter) :
    (s.enqueue c gate w).completions = s.completions := by
  unfold State.enqueue; split <;> simp
@[simp] theorem enqueue_watch (c : ChannelId) (gate : GateSource) (w : Waiter) :
    (s.enqueue c gate w).watch = s.watch := by
  unfold State.enqueue; split <;> simp
@[simp] theorem enqueue_leases (c : ChannelId) (gate : GateSource) (w : Waiter) :
    (s.enqueue c gate w).leases = s.leases := by
  unfold State.enqueue; split <;> simp
@[simp] theorem enqueue_ports (c : ChannelId) (gate : GateSource) (w : Waiter) :
    (s.enqueue c gate w).ports = s.ports := by
  unfold State.enqueue; split <;> simp
@[simp] theorem enqueue_pending (c : ChannelId) (gate : GateSource) (w : Waiter) :
    (s.enqueue c gate w).pending = s.pending := by
  unfold State.enqueue; split <;> simp

/-! raiseGroup -/

@[simp] theorem raiseGroup_selection (p : PortId) (g : GroupId) (x y : Bool) :
    (s.raiseGroup p g x y).selection = s.selection := rfl
@[simp] theorem raiseGroup_config (p : PortId) (g : GroupId) (x y : Bool) :
    (s.raiseGroup p g x y).config = s.config := rfl
@[simp] theorem raiseGroup_hubTime (p : PortId) (g : GroupId) (x y : Bool) :
    (s.raiseGroup p g x y).hubTime = s.hubTime := rfl
@[simp] theorem raiseGroup_inReset (p : PortId) (g : GroupId) (x y : Bool) :
    (s.raiseGroup p g x y).inReset = s.inReset := rfl
@[simp] theorem raiseGroup_engine (p : PortId) (g : GroupId) (x y : Bool) :
    (s.raiseGroup p g x y).engine = s.engine := rfl
@[simp] theorem raiseGroup_queue (p : PortId) (g : GroupId) (x y : Bool) :
    (s.raiseGroup p g x y).queue = s.queue := rfl
@[simp] theorem raiseGroup_schedules (p : PortId) (g : GroupId) (x y : Bool) :
    (s.raiseGroup p g x y).schedules = s.schedules := rfl
@[simp] theorem raiseGroup_results (p : PortId) (g : GroupId) (x y : Bool) :
    (s.raiseGroup p g x y).results = s.results := rfl
@[simp] theorem raiseGroup_completions (p : PortId) (g : GroupId) (x y : Bool) :
    (s.raiseGroup p g x y).completions = s.completions := rfl
@[simp] theorem raiseGroup_leases (p : PortId) (g : GroupId) (x y : Bool) :
    (s.raiseGroup p g x y).leases = s.leases := rfl
@[simp] theorem raiseGroup_ports (p : PortId) (g : GroupId) (x y : Bool) :
    (s.raiseGroup p g x y).ports = s.ports := rfl
@[simp] theorem raiseGroup_pending (p : PortId) (g : GroupId) (x y : Bool) :
    (s.raiseGroup p g x y).pending = s.pending := rfl

/-! discardStaging -/

@[simp] theorem discardStaging_selection (p : PortId) (g : GroupId) :
    (s.discardStaging p g).selection = s.selection := by
  unfold State.discardStaging; dsimp only; split <;> simp
@[simp] theorem discardStaging_config (p : PortId) (g : GroupId) :
    (s.discardStaging p g).config = s.config := by
  unfold State.discardStaging; dsimp only; split <;> simp
@[simp] theorem discardStaging_hubTime (p : PortId) (g : GroupId) :
    (s.discardStaging p g).hubTime = s.hubTime := by
  unfold State.discardStaging; dsimp only; split <;> simp
@[simp] theorem discardStaging_inReset (p : PortId) (g : GroupId) :
    (s.discardStaging p g).inReset = s.inReset := by
  unfold State.discardStaging; dsimp only; split <;> simp
@[simp] theorem discardStaging_engine (p : PortId) (g : GroupId) :
    (s.discardStaging p g).engine = s.engine := by
  unfold State.discardStaging; dsimp only; split <;> simp
@[simp] theorem discardStaging_queue (p : PortId) (g : GroupId) :
    (s.discardStaging p g).queue = s.queue := by
  unfold State.discardStaging; dsimp only; split <;> simp
@[simp] theorem discardStaging_schedules (p : PortId) (g : GroupId) :
    (s.discardStaging p g).schedules = s.schedules := by
  unfold State.discardStaging; dsimp only; split <;> simp
@[simp] theorem discardStaging_results (p : PortId) (g : GroupId) :
    (s.discardStaging p g).results = s.results := by
  unfold State.discardStaging; dsimp only; split <;> simp
@[simp] theorem discardStaging_completions (p : PortId) (g : GroupId) :
    (s.discardStaging p g).completions = s.completions := by
  unfold State.discardStaging; dsimp only; split <;> simp
@[simp] theorem discardStaging_watch (p : PortId) (g : GroupId) :
    (s.discardStaging p g).watch = s.watch := by
  unfold State.discardStaging; dsimp only; split <;> simp
@[simp] theorem discardStaging_ports (p : PortId) (g : GroupId) :
    (s.discardStaging p g).ports = s.ports := by
  unfold State.discardStaging; dsimp only; split <;> simp
@[simp] theorem discardStaging_pending (p : PortId) (g : GroupId) :
    (s.discardStaging p g).pending = s.pending := by
  unfold State.discardStaging; dsimp only; split <;> simp

/-! passOn -/

@[simp] theorem passOn_selection (g : GroupId) :
    (s.passOn g).selection = s.selection := by
  unfold State.passOn
  split
  · simp
  · dsimp only; split <;> simp
@[simp] theorem passOn_config (g : GroupId) :
    (s.passOn g).config = s.config := by
  unfold State.passOn
  split
  · simp
  · dsimp only; split <;> simp
@[simp] theorem passOn_hubTime (g : GroupId) :
    (s.passOn g).hubTime = s.hubTime := by
  unfold State.passOn
  split
  · simp
  · dsimp only; split <;> simp
@[simp] theorem passOn_inReset (g : GroupId) :
    (s.passOn g).inReset = s.inReset := by
  unfold State.passOn
  split
  · simp
  · dsimp only; split <;> simp
@[simp] theorem passOn_engine (g : GroupId) :
    (s.passOn g).engine = s.engine := by
  unfold State.passOn
  split
  · simp
  · dsimp only; split <;> simp
@[simp] theorem passOn_queue (g : GroupId) :
    (s.passOn g).queue = s.queue := by
  unfold State.passOn
  split
  · simp
  · dsimp only; split <;> simp
@[simp] theorem passOn_schedules (g : GroupId) :
    (s.passOn g).schedules = s.schedules := by
  unfold State.passOn
  split
  · simp
  · dsimp only; split <;> simp
@[simp] theorem passOn_results (g : GroupId) :
    (s.passOn g).results = s.results := by
  unfold State.passOn
  split
  · simp
  · dsimp only; split <;> simp
@[simp] theorem passOn_ports (g : GroupId) :
    (s.passOn g).ports = s.ports := by
  unfold State.passOn
  split
  · simp
  · dsimp only; split <;> simp
@[simp] theorem passOn_pending (g : GroupId) :
    (s.passOn g).pending = s.pending := by
  unfold State.passOn
  split
  · simp
  · dsimp only; split <;> simp

/-! releaseGroup -/

@[simp] theorem releaseGroup_selection (p : PortId) (g : GroupId) :
    (s.releaseGroup p g).selection = s.selection := by
  simp [State.releaseGroup]
@[simp] theorem releaseGroup_config (p : PortId) (g : GroupId) :
    (s.releaseGroup p g).config = s.config := by
  simp [State.releaseGroup]
@[simp] theorem releaseGroup_hubTime (p : PortId) (g : GroupId) :
    (s.releaseGroup p g).hubTime = s.hubTime := by
  simp [State.releaseGroup]
@[simp] theorem releaseGroup_inReset (p : PortId) (g : GroupId) :
    (s.releaseGroup p g).inReset = s.inReset := by
  simp [State.releaseGroup]
@[simp] theorem releaseGroup_engine (p : PortId) (g : GroupId) :
    (s.releaseGroup p g).engine = s.engine := by
  simp [State.releaseGroup]
@[simp] theorem releaseGroup_queue (p : PortId) (g : GroupId) :
    (s.releaseGroup p g).queue = s.queue := by
  simp [State.releaseGroup]
@[simp] theorem releaseGroup_schedules (p : PortId) (g : GroupId) :
    (s.releaseGroup p g).schedules = s.schedules := by
  simp [State.releaseGroup]
@[simp] theorem releaseGroup_results (p : PortId) (g : GroupId) :
    (s.releaseGroup p g).results = s.results := by
  simp [State.releaseGroup]
@[simp] theorem releaseGroup_ports (p : PortId) (g : GroupId) :
    (s.releaseGroup p g).ports = s.ports := by
  simp [State.releaseGroup]
@[simp] theorem releaseGroup_pending (p : PortId) (g : GroupId) :
    (s.releaseGroup p g).pending = s.pending := by
  simp [State.releaseGroup]

/-! Teardown of the lease unit -/

@[simp] theorem dropLeaseRequests_selection (p : PortId) : (s.dropLeaseRequests p).selection = s.selection := by
  simp [State.dropLeaseRequests, everyIndex]

@[simp] theorem dropLeaseRequests_config (p : PortId) : (s.dropLeaseRequests p).config = s.config := by
  simp [State.dropLeaseRequests, everyIndex]

@[simp] theorem dropLeaseRequests_hubTime (p : PortId) : (s.dropLeaseRequests p).hubTime = s.hubTime := by
  simp [State.dropLeaseRequests, everyIndex]

@[simp] theorem dropLeaseRequests_inReset (p : PortId) : (s.dropLeaseRequests p).inReset = s.inReset := by
  simp [State.dropLeaseRequests, everyIndex]

@[simp] theorem dropLeaseRequests_engine (p : PortId) : (s.dropLeaseRequests p).engine = s.engine := by
  simp [State.dropLeaseRequests, everyIndex]

@[simp] theorem dropLeaseRequests_queue (p : PortId) : (s.dropLeaseRequests p).queue = s.queue := by
  simp [State.dropLeaseRequests, everyIndex]

@[simp] theorem dropLeaseRequests_schedules (p : PortId) : (s.dropLeaseRequests p).schedules = s.schedules := by
  simp [State.dropLeaseRequests, everyIndex]

@[simp] theorem dropLeaseRequests_results (p : PortId) : (s.dropLeaseRequests p).results = s.results := by
  simp [State.dropLeaseRequests, everyIndex]

@[simp] theorem dropLeaseRequests_completions (p : PortId) : (s.dropLeaseRequests p).completions = s.completions := by
  simp [State.dropLeaseRequests, everyIndex]

@[simp] theorem dropLeaseRequests_watch (p : PortId) : (s.dropLeaseRequests p).watch = s.watch := by
  simp [State.dropLeaseRequests, everyIndex]

@[simp] theorem dropLeaseRequests_ports (p : PortId) : (s.dropLeaseRequests p).ports = s.ports := by
  simp [State.dropLeaseRequests, everyIndex]

@[simp] theorem dropLeaseRequests_pending (p : PortId) : (s.dropLeaseRequests p).pending = s.pending := by
  simp [State.dropLeaseRequests, everyIndex]

@[simp] theorem releaseIfHeld_selection (p : PortId) (g : GroupId) :
    (State.releaseIfHeld p s g).selection = s.selection := by
  unfold State.releaseIfHeld; split <;> simp

@[simp] theorem tearDownLeases_selection (p : PortId) : (s.tearDownLeases p).selection = s.selection := by
  simp [State.tearDownLeases, everyIndex]

@[simp] theorem releaseIfHeld_config (p : PortId) (g : GroupId) :
    (State.releaseIfHeld p s g).config = s.config := by
  unfold State.releaseIfHeld; split <;> simp

@[simp] theorem tearDownLeases_config (p : PortId) : (s.tearDownLeases p).config = s.config := by
  simp [State.tearDownLeases, everyIndex]

@[simp] theorem releaseIfHeld_hubTime (p : PortId) (g : GroupId) :
    (State.releaseIfHeld p s g).hubTime = s.hubTime := by
  unfold State.releaseIfHeld; split <;> simp

@[simp] theorem tearDownLeases_hubTime (p : PortId) : (s.tearDownLeases p).hubTime = s.hubTime := by
  simp [State.tearDownLeases, everyIndex]

@[simp] theorem releaseIfHeld_inReset (p : PortId) (g : GroupId) :
    (State.releaseIfHeld p s g).inReset = s.inReset := by
  unfold State.releaseIfHeld; split <;> simp

@[simp] theorem tearDownLeases_inReset (p : PortId) : (s.tearDownLeases p).inReset = s.inReset := by
  simp [State.tearDownLeases, everyIndex]

@[simp] theorem releaseIfHeld_engine (p : PortId) (g : GroupId) :
    (State.releaseIfHeld p s g).engine = s.engine := by
  unfold State.releaseIfHeld; split <;> simp

@[simp] theorem tearDownLeases_engine (p : PortId) : (s.tearDownLeases p).engine = s.engine := by
  simp [State.tearDownLeases, everyIndex]

@[simp] theorem releaseIfHeld_queue (p : PortId) (g : GroupId) :
    (State.releaseIfHeld p s g).queue = s.queue := by
  unfold State.releaseIfHeld; split <;> simp

@[simp] theorem tearDownLeases_queue (p : PortId) : (s.tearDownLeases p).queue = s.queue := by
  simp [State.tearDownLeases, everyIndex]

@[simp] theorem releaseIfHeld_schedules (p : PortId) (g : GroupId) :
    (State.releaseIfHeld p s g).schedules = s.schedules := by
  unfold State.releaseIfHeld; split <;> simp

@[simp] theorem tearDownLeases_schedules (p : PortId) : (s.tearDownLeases p).schedules = s.schedules := by
  simp [State.tearDownLeases, everyIndex]

@[simp] theorem releaseIfHeld_results (p : PortId) (g : GroupId) :
    (State.releaseIfHeld p s g).results = s.results := by
  unfold State.releaseIfHeld; split <;> simp

@[simp] theorem tearDownLeases_results (p : PortId) : (s.tearDownLeases p).results = s.results := by
  simp [State.tearDownLeases, everyIndex]

@[simp] theorem releaseIfHeld_ports (p : PortId) (g : GroupId) :
    (State.releaseIfHeld p s g).ports = s.ports := by
  unfold State.releaseIfHeld; split <;> simp

@[simp] theorem tearDownLeases_ports (p : PortId) : (s.tearDownLeases p).ports = s.ports := by
  simp [State.tearDownLeases, everyIndex]

@[simp] theorem releaseIfHeld_pending (p : PortId) (g : GroupId) :
    (State.releaseIfHeld p s g).pending = s.pending := by
  unfold State.releaseIfHeld; split <;> simp

@[simp] theorem tearDownLeases_pending (p : PortId) : (s.tearDownLeases p).pending = s.pending := by
  simp [State.tearDownLeases, everyIndex]


/-! dropSchedules -/

@[simp] theorem dropSchedules_selection (p : PortId) : (s.dropSchedules p).selection = s.selection := rfl
@[simp] theorem dropSchedules_config (p : PortId) : (s.dropSchedules p).config = s.config := rfl
@[simp] theorem dropSchedules_hubTime (p : PortId) : (s.dropSchedules p).hubTime = s.hubTime := rfl
@[simp] theorem dropSchedules_inReset (p : PortId) : (s.dropSchedules p).inReset = s.inReset := rfl
@[simp] theorem dropSchedules_engine (p : PortId) : (s.dropSchedules p).engine = s.engine := rfl
@[simp] theorem dropSchedules_queue (p : PortId) : (s.dropSchedules p).queue = s.queue := rfl
@[simp] theorem dropSchedules_results (p : PortId) : (s.dropSchedules p).results = s.results := rfl
@[simp] theorem dropSchedules_completions (p : PortId) :
    (s.dropSchedules p).completions = s.completions := rfl
@[simp] theorem dropSchedules_watch (p : PortId) : (s.dropSchedules p).watch = s.watch := rfl
@[simp] theorem dropSchedules_leases (p : PortId) : (s.dropSchedules p).leases = s.leases := rfl
@[simp] theorem dropSchedules_ports (p : PortId) : (s.dropSchedules p).ports = s.ports := rfl
@[simp] theorem dropSchedules_pending (p : PortId) : (s.dropSchedules p).pending = s.pending := rfl

/-! tearDown -/

@[simp] theorem tearDown_config (p : PortId) (next : PortController → PortController) :
    (s.tearDown p next).config = s.config := by
  simp [State.tearDown]
@[simp] theorem tearDown_hubTime (p : PortId) (next : PortController → PortController) :
    (s.tearDown p next).hubTime = s.hubTime := by
  simp [State.tearDown]
@[simp] theorem tearDown_inReset (p : PortId) (next : PortController → PortController) :
    (s.tearDown p next).inReset = s.inReset := by
  simp [State.tearDown]
@[simp] theorem tearDown_pending (p : PortId) (next : PortController → PortController) :
    (s.tearDown p next).pending = s.pending := by
  simp [State.tearDown]

/-! applyCommit -/

@[simp] theorem applyCommit_selection (scope : CommitScope) :
    (s.applyCommit scope).selection = s.selection := by
  unfold State.applyCommit; cases scope <;> simp
@[simp] theorem applyCommit_hubTime (scope : CommitScope) :
    (s.applyCommit scope).hubTime = s.hubTime := by
  unfold State.applyCommit; cases scope <;> simp
@[simp] theorem applyCommit_inReset (scope : CommitScope) :
    (s.applyCommit scope).inReset = s.inReset := by
  unfold State.applyCommit; cases scope <;> simp
@[simp] theorem applyCommit_queue (scope : CommitScope) :
    (s.applyCommit scope).queue = s.queue := by
  unfold State.applyCommit; cases scope <;> simp
@[simp] theorem applyCommit_schedules (scope : CommitScope) :
    (s.applyCommit scope).schedules = s.schedules := by
  unfold State.applyCommit; cases scope <;> simp
@[simp] theorem applyCommit_results (scope : CommitScope) :
    (s.applyCommit scope).results = s.results := by
  unfold State.applyCommit; cases scope <;> simp
@[simp] theorem applyCommit_completions (scope : CommitScope) :
    (s.applyCommit scope).completions = s.completions := by
  unfold State.applyCommit; cases scope <;> simp
@[simp] theorem applyCommit_watch (scope : CommitScope) :
    (s.applyCommit scope).watch = s.watch := by
  unfold State.applyCommit; cases scope <;> simp
@[simp] theorem applyCommit_ports (scope : CommitScope) :
    (s.applyCommit scope).ports = s.ports := by
  unfold State.applyCommit; cases scope <;> simp
@[simp] theorem applyCommit_pending (scope : CommitScope) :
    (s.applyCommit scope).pending = s.pending := by
  unfold State.applyCommit; cases scope <;> simp

/-! abortInFlight -/

@[simp] theorem abortInFlight_config :
    (s.abortInFlight).config = s.config := by
  unfold State.abortInFlight; dsimp only; split <;> simp
@[simp] theorem abortInFlight_hubTime :
    (s.abortInFlight).hubTime = s.hubTime := by
  unfold State.abortInFlight; dsimp only; split <;> simp
@[simp] theorem abortInFlight_inReset :
    (s.abortInFlight).inReset = s.inReset := by
  unfold State.abortInFlight; dsimp only; split <;> simp
@[simp] theorem abortInFlight_results :
    (s.abortInFlight).results = s.results := by
  unfold State.abortInFlight; dsimp only; split <;> simp
@[simp] theorem abortInFlight_watch :
    (s.abortInFlight).watch = s.watch := by
  unfold State.abortInFlight; dsimp only; split <;> simp
@[simp] theorem abortInFlight_leases :
    (s.abortInFlight).leases = s.leases := by
  unfold State.abortInFlight; dsimp only; split <;> simp
@[simp] theorem abortInFlight_ports :
    (s.abortInFlight).ports = s.ports := by
  unfold State.abortInFlight; dsimp only; split <;> simp
@[simp] theorem abortInFlight_pending :
    (s.abortInFlight).pending = s.pending := by
  unfold State.abortInFlight; dsimp only; split <;> simp

/-! removeDisabled -/

theorem deliverAll_selection (ending : RequestEnd) (gone : List Entry) (s : State) :
    (gone.foldl (fun t e => t.deliver e ending) s).selection = s.selection := by
  induction gone generalizing s with
  | nil => rfl
  | cons e rest ih => rw [List.foldl_cons, ih]; simp

@[simp] theorem removeDisabled_selection : s.removeDisabled.selection = s.selection := by
  simp [State.removeDisabled, deliverAll_selection]

theorem deliverAll_config (ending : RequestEnd) (gone : List Entry) (s : State) :
    (gone.foldl (fun t e => t.deliver e ending) s).config = s.config := by
  induction gone generalizing s with
  | nil => rfl
  | cons e rest ih => rw [List.foldl_cons, ih]; simp

@[simp] theorem removeDisabled_config : s.removeDisabled.config = s.config := by
  simp [State.removeDisabled, deliverAll_config]

theorem deliverAll_hubTime (ending : RequestEnd) (gone : List Entry) (s : State) :
    (gone.foldl (fun t e => t.deliver e ending) s).hubTime = s.hubTime := by
  induction gone generalizing s with
  | nil => rfl
  | cons e rest ih => rw [List.foldl_cons, ih]; simp

@[simp] theorem removeDisabled_hubTime : s.removeDisabled.hubTime = s.hubTime := by
  simp [State.removeDisabled, deliverAll_hubTime]

theorem deliverAll_inReset (ending : RequestEnd) (gone : List Entry) (s : State) :
    (gone.foldl (fun t e => t.deliver e ending) s).inReset = s.inReset := by
  induction gone generalizing s with
  | nil => rfl
  | cons e rest ih => rw [List.foldl_cons, ih]; simp

@[simp] theorem removeDisabled_inReset : s.removeDisabled.inReset = s.inReset := by
  simp [State.removeDisabled, deliverAll_inReset]

theorem deliverAll_engine (ending : RequestEnd) (gone : List Entry) (s : State) :
    (gone.foldl (fun t e => t.deliver e ending) s).engine = s.engine := by
  induction gone generalizing s with
  | nil => rfl
  | cons e rest ih => rw [List.foldl_cons, ih]; simp

@[simp] theorem removeDisabled_engine : s.removeDisabled.engine = s.engine := by
  simp [State.removeDisabled, deliverAll_engine]

theorem deliverAll_results (ending : RequestEnd) (gone : List Entry) (s : State) :
    (gone.foldl (fun t e => t.deliver e ending) s).results = s.results := by
  induction gone generalizing s with
  | nil => rfl
  | cons e rest ih => rw [List.foldl_cons, ih]; simp

@[simp] theorem removeDisabled_results : s.removeDisabled.results = s.results := by
  simp [State.removeDisabled, deliverAll_results]

theorem deliverAll_watch (ending : RequestEnd) (gone : List Entry) (s : State) :
    (gone.foldl (fun t e => t.deliver e ending) s).watch = s.watch := by
  induction gone generalizing s with
  | nil => rfl
  | cons e rest ih => rw [List.foldl_cons, ih]; simp

@[simp] theorem removeDisabled_watch : s.removeDisabled.watch = s.watch := by
  simp [State.removeDisabled, deliverAll_watch]

theorem deliverAll_leases (ending : RequestEnd) (gone : List Entry) (s : State) :
    (gone.foldl (fun t e => t.deliver e ending) s).leases = s.leases := by
  induction gone generalizing s with
  | nil => rfl
  | cons e rest ih => rw [List.foldl_cons, ih]; simp

@[simp] theorem removeDisabled_leases : s.removeDisabled.leases = s.leases := by
  simp [State.removeDisabled, deliverAll_leases]

theorem deliverAll_ports (ending : RequestEnd) (gone : List Entry) (s : State) :
    (gone.foldl (fun t e => t.deliver e ending) s).ports = s.ports := by
  induction gone generalizing s with
  | nil => rfl
  | cons e rest ih => rw [List.foldl_cons, ih]; simp

@[simp] theorem removeDisabled_ports : s.removeDisabled.ports = s.ports := by
  simp [State.removeDisabled, deliverAll_ports]

theorem deliverAll_pending (ending : RequestEnd) (gone : List Entry) (s : State) :
    (gone.foldl (fun t e => t.deliver e ending) s).pending = s.pending := by
  induction gone generalizing s with
  | nil => rfl
  | cons e rest ih => rw [List.foldl_cons, ih]; simp

@[simp] theorem removeDisabled_pending : s.removeDisabled.pending = s.pending := by
  simp [State.removeDisabled, deliverAll_pending]


/-! closeTransaction -/

@[simp] theorem closeTransaction_selection (p : PortId) :
    (s.closeTransaction p).selection = s.selection := rfl
@[simp] theorem closeTransaction_config (p : PortId) : (s.closeTransaction p).config = s.config := rfl
@[simp] theorem closeTransaction_hubTime (p : PortId) : (s.closeTransaction p).hubTime = s.hubTime := rfl
@[simp] theorem closeTransaction_inReset (p : PortId) : (s.closeTransaction p).inReset = s.inReset := rfl
@[simp] theorem closeTransaction_engine (p : PortId) : (s.closeTransaction p).engine = s.engine := rfl
@[simp] theorem closeTransaction_queue (p : PortId) : (s.closeTransaction p).queue = s.queue := rfl
@[simp] theorem closeTransaction_schedules (p : PortId) :
    (s.closeTransaction p).schedules = s.schedules := rfl
@[simp] theorem closeTransaction_results (p : PortId) : (s.closeTransaction p).results = s.results := rfl
@[simp] theorem closeTransaction_completions (p : PortId) :
    (s.closeTransaction p).completions = s.completions := rfl
@[simp] theorem closeTransaction_watch (p : PortId) : (s.closeTransaction p).watch = s.watch := rfl
@[simp] theorem closeTransaction_leases (p : PortId) : (s.closeTransaction p).leases = s.leases := rfl
@[simp] theorem closeTransaction_pending (p : PortId) : (s.closeTransaction p).pending = s.pending := rfl

/-! goodFrame -/

@[simp] theorem goodFrame_selection (p : PortId) : (s.goodFrame p).selection = s.selection := rfl
@[simp] theorem goodFrame_config (p : PortId) : (s.goodFrame p).config = s.config := rfl
@[simp] theorem goodFrame_hubTime (p : PortId) : (s.goodFrame p).hubTime = s.hubTime := rfl
@[simp] theorem goodFrame_inReset (p : PortId) : (s.goodFrame p).inReset = s.inReset := rfl
@[simp] theorem goodFrame_engine (p : PortId) : (s.goodFrame p).engine = s.engine := rfl
@[simp] theorem goodFrame_queue (p : PortId) : (s.goodFrame p).queue = s.queue := rfl
@[simp] theorem goodFrame_schedules (p : PortId) : (s.goodFrame p).schedules = s.schedules := rfl
@[simp] theorem goodFrame_results (p : PortId) : (s.goodFrame p).results = s.results := rfl
@[simp] theorem goodFrame_completions (p : PortId) : (s.goodFrame p).completions = s.completions := rfl
@[simp] theorem goodFrame_watch (p : PortId) : (s.goodFrame p).watch = s.watch := rfl
@[simp] theorem goodFrame_leases (p : PortId) : (s.goodFrame p).leases = s.leases := rfl
@[simp] theorem goodFrame_pending (p : PortId) : (s.goodFrame p).pending = s.pending := rfl

/-! delivered -/

@[simp] theorem delivered_selection (p : PortId) (t : Transaction) :
    (s.delivered p t).selection = s.selection := rfl
@[simp] theorem delivered_config (p : PortId) (t : Transaction) : (s.delivered p t).config = s.config := rfl
@[simp] theorem delivered_hubTime (p : PortId) (t : Transaction) :
    (s.delivered p t).hubTime = s.hubTime := rfl
@[simp] theorem delivered_inReset (p : PortId) (t : Transaction) :
    (s.delivered p t).inReset = s.inReset := rfl
@[simp] theorem delivered_engine (p : PortId) (t : Transaction) : (s.delivered p t).engine = s.engine := rfl
@[simp] theorem delivered_queue (p : PortId) (t : Transaction) : (s.delivered p t).queue = s.queue := rfl
@[simp] theorem delivered_schedules (p : PortId) (t : Transaction) :
    (s.delivered p t).schedules = s.schedules := rfl
@[simp] theorem delivered_results (p : PortId) (t : Transaction) :
    (s.delivered p t).results = s.results := rfl
@[simp] theorem delivered_completions (p : PortId) (t : Transaction) :
    (s.delivered p t).completions = s.completions := rfl
@[simp] theorem delivered_watch (p : PortId) (t : Transaction) : (s.delivered p t).watch = s.watch := rfl
@[simp] theorem delivered_leases (p : PortId) (t : Transaction) : (s.delivered p t).leases = s.leases := rfl
@[simp] theorem delivered_pending (p : PortId) (t : Transaction) :
    (s.delivered p t).pending = s.pending := rfl

/-! hold -/

@[simp] theorem hold_selection (p : PortId) (r : Response) : (s.hold p r).selection = s.selection := rfl
@[simp] theorem hold_config (p : PortId) (r : Response) : (s.hold p r).config = s.config := rfl
@[simp] theorem hold_hubTime (p : PortId) (r : Response) : (s.hold p r).hubTime = s.hubTime := rfl
@[simp] theorem hold_inReset (p : PortId) (r : Response) : (s.hold p r).inReset = s.inReset := rfl
@[simp] theorem hold_engine (p : PortId) (r : Response) : (s.hold p r).engine = s.engine := rfl
@[simp] theorem hold_queue (p : PortId) (r : Response) : (s.hold p r).queue = s.queue := rfl
@[simp] theorem hold_schedules (p : PortId) (r : Response) : (s.hold p r).schedules = s.schedules := rfl
@[simp] theorem hold_results (p : PortId) (r : Response) : (s.hold p r).results = s.results := rfl
@[simp] theorem hold_completions (p : PortId) (r : Response) :
    (s.hold p r).completions = s.completions := rfl
@[simp] theorem hold_watch (p : PortId) (r : Response) : (s.hold p r).watch = s.watch := rfl
@[simp] theorem hold_leases (p : PortId) (r : Response) : (s.hold p r).leases = s.leases := rfl
@[simp] theorem hold_pending (p : PortId) (r : Response) : (s.hold p r).pending = s.pending := rfl

/-! countLinkError -/

@[simp] theorem countLinkError_selection (p : PortId) : (s.countLinkError p).selection = s.selection := rfl
@[simp] theorem countLinkError_config (p : PortId) : (s.countLinkError p).config = s.config := rfl
@[simp] theorem countLinkError_hubTime (p : PortId) : (s.countLinkError p).hubTime = s.hubTime := rfl
@[simp] theorem countLinkError_inReset (p : PortId) : (s.countLinkError p).inReset = s.inReset := rfl
@[simp] theorem countLinkError_engine (p : PortId) : (s.countLinkError p).engine = s.engine := rfl
@[simp] theorem countLinkError_queue (p : PortId) : (s.countLinkError p).queue = s.queue := rfl
@[simp] theorem countLinkError_schedules (p : PortId) : (s.countLinkError p).schedules = s.schedules := rfl
@[simp] theorem countLinkError_results (p : PortId) : (s.countLinkError p).results = s.results := rfl
@[simp] theorem countLinkError_completions (p : PortId) :
    (s.countLinkError p).completions = s.completions := rfl
@[simp] theorem countLinkError_watch (p : PortId) : (s.countLinkError p).watch = s.watch := rfl
@[simp] theorem countLinkError_leases (p : PortId) : (s.countLinkError p).leases = s.leases := rfl
@[simp] theorem countLinkError_pending (p : PortId) : (s.countLinkError p).pending = s.pending := rfl

end State
end Sys2Proof.Machine
end

