-- ==== Sys2Proof/Laws/Ops.lean ====
section
/-!
SUPPORT. What the shared operations over the queue, the notice lists, the leases and the port controllers
can do. A proof of a property that every step keeps cites the `_keeps` lemmas: they reduce a shared
operation to the single changes it is made of.
-/
namespace Sys2Proof.Machine

/-! ## Ranges -/

theorem ranged_of_mem {w lo hi : Nat} {x : BitVec w} (h : lo ≤ x.toNat ∧ x.toNat ≤ hi) :
    ranged lo hi x = some x := by simp [ranged, inRange, h.1, h.2]

theorem ranged_of_not_mem {w lo hi : Nat} {x : BitVec w} (h : ¬(lo ≤ x.toNat ∧ x.toNat ≤ hi)) :
    ranged lo hi x = none := by
  simp only [ranged, inRange, Bool.and_eq_true, decide_eq_true_eq, if_neg h]

/-- A change count is never 0 (R109). -/
theorem saturatingSucc_ne_zero : ∀ x : Byte, saturatingSucc x ≠ 0 := by decide +kernel

theorem saturatingSucc_half (x : Half) : saturatingSucc x = if x = 65535 then 65535 else x + 1 := by
  unfold saturatingSucc
  have top : BitVec.allOnes 16 = (65535 : Half) := by decide
  rw [top]
  split
  · assumption
  · rfl

/-! ## Waiters and entries -/

@[simp] theorem waitersOf_nil (p : PortId) : waitersOf p [] = 0 := rfl

@[simp] theorem waitersOf_cons (p : PortId) (e : Entry) (l : List Entry) :
    waitersOf p (e :: l) = (e.waiters.countP fun w => decide (w.port = p)) + waitersOf p l := by
  simp [waitersOf]

@[simp] theorem waitersOf_append (p : PortId) (l m : List Entry) :
    waitersOf p (l ++ m) = waitersOf p l + waitersOf p m := by simp [waitersOf]

theorem waitersOf_erase {p : PortId} {e : Entry} {l : List Entry} (h : e ∈ l) :
    waitersOf p (l.erase e) + (e.waiters.countP fun w => decide (w.port = p)) = waitersOf p l := by
  induction l with
  | nil => cases h
  | cons a l ih =>
    by_cases he : a = e
    · subst he
      simp [Nat.add_comm]
    · rw [List.erase_cons_tail (by simpa using he), waitersOf_cons, waitersOf_cons]
      have := ih ((List.mem_cons.mp h).resolve_left (Ne.symm he))
      omega

/-! ## The arbiter (R58, R60) -/

theorem bestOf_mem {f : Entry → Nat} : {l : List Entry} → {e : Entry} → bestOf f l = some e → e ∈ l
  | [], e, h => by cases h
  | a :: l, e, h => by
    unfold bestOf at h
    cases hb : bestOf f l with
    | none =>
      rw [hb] at h
      cases h
      exact List.mem_cons_self
    | some b =>
      rw [hb] at h
      dsimp only at h
      split at h
      · cases h
        exact List.mem_cons_of_mem _ (bestOf_mem hb)
      · cases h
        exact List.mem_cons_self

theorem bestOf_eq_none {f : Entry → Nat} {l : List Entry} : bestOf f l = none ↔ l = [] := by
  cases l with
  | nil => simp [bestOf]
  | cons a l =>
    unfold bestOf
    cases bestOf f l with
    | none => simp
    | some b => by_cases h : f a < f b <;> simp [h]

/-- The arbiter chooses one of the entries, and a dispatchable one. -/
theorem State.chosenEntry_mem {s : State} {e : Entry} (h : s.chosenEntry = some e) :
    e ∈ s.entries ∧ s.dispatchable e = true := by
  have := bestOf_mem h
  simpa [List.mem_filter] using this

theorem State.dispatchable_pending {s : State} {e : Entry} (h : s.dispatchable e = true) :
    e.state = .pending := by
  simp only [State.dispatchable, Bool.and_eq_true, Entry.isPending, decide_eq_true_eq] at h
  exact h.1

theorem arbiterRuns_keeps {P : State → Prop}
    (complete : ∀ t e, P t → t.engine.conversion = none → t.chosenEntry = some e →
      t.faultedFor e = true → P (t.completeEntry e (t.faultedOutcome e)))
    (start : ∀ t e, P t → t.engine.conversion = none → t.chosenEntry = some e →
      t.faultedFor e = false → P (t.startConversion e)) :
    ∀ (n : Nat) (s : State), P s → P (arbiterRuns n s)
  | 0, _, h => h
  | n + 1, s, h => by
    unfold arbiterRuns
    by_cases hc : s.engine.conversion.isSome = true
    · rw [if_pos hc]
      exact h
    · rw [if_neg hc]
      have idle : s.engine.conversion = none := by simpa using hc
      cases he : s.chosenEntry with
      | none => exact h
      | some e =>
        dsimp only
        cases hf : s.faultedFor e with
        | true => exact arbiterRuns_keeps complete start n _ (complete s e h idle he hf)
        | false => exact start s e h idle he hf

/-- The arbiter's run changes the state by dispatches only: completions with REF_FAULT, then at most one
start of a conversion. -/
theorem State.runArbiter_keeps {P : State → Prop}
    (complete : ∀ t e, P t → t.engine.conversion = none → t.chosenEntry = some e →
      t.faultedFor e = true → P (t.completeEntry e (t.faultedOutcome e)))
    (start : ∀ t e, P t → t.engine.conversion = none → t.chosenEntry = some e →
      t.faultedFor e = false → P (t.startConversion e))
    {s : State} (h : P s) : P s.runArbiter :=
  arbiterRuns_keeps complete start _ s h

/-! ## Fan-out (R65) -/

theorem State.deliver_keeps {P : State → Prop} {e : Entry} {ending : RequestEnd}
    (one : ∀ t w, P t → w ∈ e.waiters → P (State.deliverTo e ending t w)) {s : State} (h : P s) :
    P (s.deliver e ending) := by
  unfold State.deliver
  suffices key : ∀ l : List Waiter, (∀ w ∈ l, w ∈ e.waiters) → ∀ t, P t →
      P (l.foldl (State.deliverTo e ending) t) from key _ (fun _ hw => hw) s h
  intro l
  induction l with
  | nil => exact fun _ t ht => ht
  | cons w l ih =>
    intro hl t ht
    exact ih (fun x hx => hl x (List.mem_cons_of_mem _ hx)) _ (one t w ht (hl w List.mem_cons_self))

/-- A fan-out places one record at the tail of each waiter's queue, in order of joining. -/
theorem State.cq_deliver (s : State) (e : Entry) (ending : RequestEnd) (p : PortId) :
    (s.deliver e ending).cq p = s.cq p ++ (e.waiters.filter fun w => decide (w.port = p)).map fun w =>
      .request w.origin e.channel e.gate ending s.hubTime := by
  unfold State.deliver
  generalize e.waiters = l
  induction l generalizing s with
  | nil => simp
  | cons w l ih =>
    rw [List.foldl_cons, ih]
    have time : (State.deliverTo e ending s w).hubTime = s.hubTime := by simp [State.deliverTo]
    have queue : (State.deliverTo e ending s w).cq p = s.cq p ++
        if w.port = p then [.request w.origin e.channel e.gate ending s.hubTime] else [] := by
      simp only [State.deliverTo, State.cq, State.countRun_completions, State.place, State.setCq,
        State.setCompletions, Table.read_write]
      by_cases hp : p = w.port
      · subst hp
        simp
      · simp [hp, Ne.symm hp]
    rw [time, queue]
    by_cases hp : w.port = p <;> simp [hp]

/-! ## Waiters removed (R62) -/

theorem State.entries_removeWaiters (s : State) (gone : Waiter → Bool) :
    (s.removeWaiters gone).entries =
      (s.entries.map (Entry.without gone)).filter fun e => !e.waiters.isEmpty := by
  unfold State.removeWaiters
  dsimp only
  split <;> rfl

theorem State.conversion_removeWaiters (s : State) (gone : Waiter → Bool) :
    (s.removeWaiters gone).engine.conversion =
      if losesInFlight gone s.entries then none else s.engine.conversion := by
  unfold State.removeWaiters
  dsimp only
  split <;> rfl

/-! ## Notice lists (R110 to R113) -/

/-- A created notice stands after those of equal or higher priority. -/
theorem insertNotice_split (n : Notice) (l : List Notice) :
    ∃ before after, l = before ++ after ∧ insertNotice n l = before ++ n :: after ∧
      (∀ m ∈ before, n.priority ≤ m.priority) ∧
      (l.Pairwise (fun a b => b.priority ≤ a.priority) → ∀ m ∈ after, m.priority < n.priority) := by
  induction l with
  | nil => exact ⟨[], [], rfl, rfl, nofun, fun _ => nofun⟩
  | cons m l ih =>
    unfold insertNotice
    by_cases h : n.priority ≤ m.priority
    · obtain ⟨before, after, hl, hi, hb, ha⟩ := ih
      refine ⟨m :: before, after, by rw [hl]; rfl, by rw [if_pos h, hi]; rfl, ?_, ?_⟩
      · intro x hx
        rcases List.mem_cons.mp hx with rfl | hx
        · exact h
        · exact hb x hx
      · intro hp
        exact ha (List.Pairwise.tail hp)
    · refine ⟨[], m :: l, rfl, by rw [if_neg h]; rfl, nofun, ?_⟩
      intro hp x hx
      have low : m.priority < n.priority := Fin.not_le.mp h
      rcases List.mem_cons.mp hx with rfl | hx
      · exact low
      · exact Nat.lt_of_le_of_lt (List.rel_of_pairwise_cons hp hx) low

theorem mem_insertNotice {n m : Notice} {l : List Notice} :
    m ∈ insertNotice n l ↔ m = n ∨ m ∈ l := by
  obtain ⟨before, after, hl, hi, _, _⟩ := insertNotice_split n l
  rw [hi, hl]
  simp only [List.mem_append, List.mem_cons]
  exact or_left_comm

/-- Every way a port's slots and notices change at an evaluation is one evaluated slot. -/
theorem PortWatch.evaluate_keeps {P : PortWatch → Prop} {c : ChannelId} {ratio : Option Word}
    {seq : Word} {now : Time}
    (one : ∀ v i, P v → P (PortWatch.evaluateSlot c ratio seq now v i)) {w : PortWatch} (h : P w) :
    P (w.evaluate c ratio seq now) := by
  unfold PortWatch.evaluate
  generalize everyIndex 8 = l
  induction l generalizing w with
  | nil => exact h
  | cons i l ih => exact ih (one w i h)

/-! ## Leases (R133) -/

/-- The lease unit's part of a teardown: the port's requests leave, then each group it holds passes on. -/
theorem State.tearDownLeases_keeps {P : State → Prop} {p : PortId}
    (drop : ∀ t g, P t → P (t.setGroup g
      { t.group g with waiting := (t.group g).waiting.filter fun q => decide (q.port ≠ p) }))
    (release : ∀ t g, P t → t.holds p g = true → P (t.releaseGroup p g)) {s : State} (h : P s) :
    P (s.tearDownLeases p) := by
  have dropped : P (s.dropLeaseRequests p) := by
    unfold State.dropLeaseRequests
    generalize everyIndex 3 = l
    induction l generalizing s with
    | nil => exact h
    | cons g l ih => exact ih (drop s g h)
  unfold State.tearDownLeases
  revert dropped
  generalize s.dropLeaseRequests p = u
  generalize everyIndex 3 = l
  intro hu
  induction l generalizing u with
  | nil => exact hu
  | cons g l ih =>
    refine ih _ ?_
    unfold State.releaseIfHeld
    split
    · exact release u g hu (by assumption)
    · exact hu

/-! ## The end of a transaction (R161) -/

/-- The end of a full transaction with a good request changes port `p`'s controller, and the rest of the
state only by the command, run in a state that differs in that controller. -/
theorem State.endGood_keeps {P : State → Prop} {p : PortId}
    (controller : ∀ t c, P t → P (t.setPort p c)) {command : State → Reply}
    (run : ∀ t, P t → P (command t).state) {s : State} (h : P s) (tag crc : Half) :
    P (s.endGood p tag crc command) := by
  unfold State.endGood
  cases (s.port p).transaction with
  | none => exact h
  | some t =>
    have closed : P ((s.closeTransaction p).goodFrame p) := controller _ _ (controller _ _ h)
    have handled : P ((((s.closeTransaction p).goodFrame p).delivered p t).handleGood p tag crc
        command) := by
      unfold State.handleGood
      split
      · exact controller _ _ (controller _ _ closed)
      · exact controller _ _ (controller _ _ (run _ (controller _ _ closed)))
    dsimp only
    cases t.began with
    | none => exact handled
    | ready => exact handled
    | preparing => exact closed
    | interrupted => exact controller _ _ closed

end Sys2Proof.Machine
end

