-- ==== Sys2Proof/Laws/Leases.lean ====
section
/-!
SUPPORT. What a lease passed on and the lease unit's part of a teardown leave in each part of the state, by
what a reader of that part sees: the groups, the staging buffers, a completion queue, a port's notices.
-/
namespace Sys2Proof.Machine
namespace State

variable (s : State) (p q : PortId) (g k : GroupId)

/-! ## Discarding staging (R127, R136) -/

@[simp] theorem groups_discardStaging : (s.discardStaging p g).leases.groups = s.leases.groups := by
  unfold State.discardStaging; dsimp only; split <;> rfl

@[simp] theorem group_discardStaging : (s.discardStaging p g).group k = s.group k := by
  simp [State.group]

@[simp] theorem holder_discardStaging : (s.discardStaging p g).holder k = s.holder k := by
  simp [State.holder]

theorem staging_discardStaging (c : ChannelId) :
    (s.discardStaging p g).leases.staging.read c =
      if groupOf c = g then none else s.leases.staging.read c := by
  unfold State.discardStaging
  dsimp only
  split <;> simp [State.setStaging, State.setHubStaging, State.setLeases]

theorem hubStaging_discardStaging :
    (s.discardStaging p g).leases.hubStaging =
      if s.holdsAll p then HubStaging.empty else s.leases.hubStaging := by
  unfold State.discardStaging
  dsimp only
  split <;> rfl

/-! ## Passing on (R129, R130) -/

/-- The group's record: the head of the wait list becomes the holder, or the group is FREE. -/
theorem group_passOn : (s.passOn g).group k =
    if k = g then
      match (s.group g).waiting with
      | [] => { lease := .free, waiting := [] }
      | x :: rest => { lease := .held x.port x.kind (s.hubTime + msToUs x.termMs), waiting := rest }
    else s.group k := by
  unfold State.passOn
  by_cases h : k = g
  · subst h
    rw [if_pos rfl]
    cases hw : (s.group k).waiting with
    | nil => simp
    | cons x rest =>
      cases rest <;> simp [State.place, State.setCq, State.raiseGroup, State.setPortWatch, State.group,
        State.setGroup, State.setLeases, State.setCompletions, State.setWatch]
  · rw [if_neg h]
    cases hw : (s.group g).waiting with
    | nil => simp [State.group_setGroup_of_ne _ _ h]
    | cons x rest =>
      cases rest <;> simp [State.place, State.setCq, State.raiseGroup, State.setPortWatch, State.group,
        State.setGroup, State.setLeases, State.setCompletions, State.setWatch, Table.read_write, h]

@[simp] theorem staging_passOn : (s.passOn g).leases.staging = s.leases.staging := by
  unfold State.passOn
  cases (s.group g).waiting with
  | nil => rfl
  | cons x rest => cases rest <;> rfl

@[simp] theorem hubStaging_passOn : (s.passOn g).leases.hubStaging = s.leases.hubStaging := by
  unfold State.passOn
  cases (s.group g).waiting with
  | nil => rfl
  | cons x rest => cases rest <;> rfl

/-- A completion queue: the new holder's LEASE_GRANTED record, at the tail. -/
theorem cq_passOn : (s.passOn g).cq q = s.cq q ++
    (match (s.group g).waiting with
      | [] => []
      | x :: _ =>
        if x.port = q then
          [.lease x.tag g x.kind (s.hubTime + msToUs x.termMs) s.hubTime]
        else []) := by
  unfold State.passOn
  cases (s.group g).waiting with
  | nil => simp [State.cq]
  | cons x rest =>
    by_cases h : q = x.port
    · subst h
      cases rest <;> simp [State.place, State.raiseGroup, State.cq, State.setCq, State.setCompletions]
    · cases rest <;> simp [State.place, State.raiseGroup, State.cq, State.setCq, State.setCompletions,
        Table.read_write, h, Ne.symm h]

/-- A port's notices: RELEASE_REQUESTED for the new holder when another request waits. -/
theorem portWatch_passOn : (s.passOn g).portWatch q =
    match (s.group g).waiting with
    | x :: _ :: _ =>
      if x.port = q then (s.portWatch q).raise (.group g true false) 3 s.hubTime else s.portWatch q
    | _ => s.portWatch q := by
  unfold State.passOn
  cases (s.group g).waiting with
  | nil => rfl
  | cons x rest =>
    cases rest with
    | nil => rfl
    | cons y rest =>
      by_cases h : q = x.port
      · subst h
        simp [State.place, State.raiseGroup, State.portWatch, State.setPortWatch, State.setWatch]
      · simp [State.place, State.raiseGroup, State.portWatch, State.setPortWatch, State.setWatch,
          Table.read_write, h, Ne.symm h]

/-! ## The lease unit's part of a teardown (R133) -/

theorem group_dropLeaseRequests : (s.dropLeaseRequests p).group k =
    { s.group k with waiting := (s.group k).waiting.filter fun x => decide (x.port ≠ p) } := by
  have three : everyIndex 3 = [0, 1, 2] := rfl
  unfold State.dropLeaseRequests
  rw [three]
  simp only [List.foldl_cons, List.foldl_nil]
  match k with
  | 0 => simp [State.group, State.setGroup, State.setLeases, Table.read_write]
  | 1 => simp [State.group, State.setGroup, State.setLeases, Table.read_write]
  | 2 => simp [State.group, State.setGroup, State.setLeases, Table.read_write]

@[simp] theorem staging_dropLeaseRequests : (s.dropLeaseRequests p).leases.staging = s.leases.staging := rfl

@[simp] theorem hubStaging_dropLeaseRequests :
    (s.dropLeaseRequests p).leases.hubStaging = s.leases.hubStaging := rfl

@[simp] theorem holder_dropLeaseRequests : (s.dropLeaseRequests p).holder k = s.holder k := by
  simp [State.holder, State.group_dropLeaseRequests]

theorem releaseIfHeld_of_not_held (h : s.holder g ≠ some p) : State.releaseIfHeld p s g = s := by
  unfold State.releaseIfHeld State.holds; simp [h]

theorem group_releaseIfHeld : (State.releaseIfHeld p s g).group k =
    if s.holder g = some p ∧ k = g then
      match (s.group g).waiting with
      | [] => { lease := .free, waiting := [] }
      | x :: rest => { lease := .held x.port x.kind (s.hubTime + msToUs x.termMs), waiting := rest }
    else s.group k := by
  unfold State.releaseIfHeld State.holds State.releaseGroup
  by_cases h : s.holder g = some p <;> by_cases hk : k = g <;> simp [h, hk, State.group_passOn]

theorem holder_releaseIfHeld_of_ne (h : k ≠ g) :
    (State.releaseIfHeld p s g).holder k = s.holder k := by
  simp [State.holder, State.group_releaseIfHeld, h]

theorem staging_releaseIfHeld (c : ChannelId) :
    (State.releaseIfHeld p s g).leases.staging.read c =
      if s.holder g = some p ∧ groupOf c = g then none else s.leases.staging.read c := by
  unfold State.releaseIfHeld State.holds State.releaseGroup
  by_cases h : s.holder g = some p <;> simp [h, State.staging_discardStaging]

theorem hubStaging_releaseIfHeld :
    (State.releaseIfHeld p s g).leases.hubStaging =
      if s.holder g = some p ∧ s.holdsAll p = true then HubStaging.empty else s.leases.hubStaging := by
  unfold State.releaseIfHeld State.holds State.releaseGroup
  by_cases h : s.holder g = some p <;> simp [h, State.hubStaging_discardStaging]

theorem cq_releaseIfHeld : (State.releaseIfHeld p s g).cq q = s.cq q ++
    (match (s.group g).waiting with
      | [] => []
      | x :: _ =>
        if s.holder g = some p ∧ x.port = q then
          [.lease x.tag g x.kind (s.hubTime + msToUs x.termMs) s.hubTime]
        else []) := by
  unfold State.releaseIfHeld State.holds State.releaseGroup
  have same : (s.discardStaging p g).cq q = s.cq q := by simp [State.cq]
  by_cases h : s.holder g = some p
  · simp [h, State.cq_passOn, same]
  · cases (s.group g).waiting <;> simp [h]

theorem portWatch_releaseIfHeld : (State.releaseIfHeld p s g).portWatch q =
    match (s.group g).waiting with
    | x :: _ :: _ =>
      if s.holder g = some p ∧ x.port = q then (s.portWatch q).raise (.group g true false) 3 s.hubTime
      else s.portWatch q
    | _ => s.portWatch q := by
  unfold State.releaseIfHeld State.holds State.releaseGroup
  have same : (s.discardStaging p g).portWatch q = s.portWatch q := by simp [State.portWatch]
  by_cases h : s.holder g = some p
  · simp [h, State.portWatch_passOn, same]
  · cases (s.group g).waiting with
    | nil => simp [h]
    | cons x rest => cases rest <;> simp [h]

@[simp] theorem hubTime_releaseIfHeld : (State.releaseIfHeld p s g).hubTime = s.hubTime := by
  unfold State.releaseIfHeld; split <;> simp

end State
end Sys2Proof.Machine
end

