-- ==== Sys2Proof/Laws/Link.lean ====
section
/-!
SUPPORT. What the end of a transaction can do, case by case, as equations.
-/
namespace Sys2Proof.Machine

variable {s : State} {p : PortId} {t : Transaction}

@[simp] theorem State.port_taken : (s.taken p t).port p = (s.port p).taking t s.hubTime := by
  simp [State.taken]

theorem State.port_taken_of_ne {q : PortId} (h : q ≠ p) : (s.taken p t).port q = s.port q :=
  State.port_setPort_of_ne _ _ h

theorem restartedSilence_isAttached (now : Time) (x : PortState) :
    (restartedSilence now x).isAttached = x.isAttached := by
  cases x with
  | attached a => unfold restartedSilence; dsimp only; split <;> rfl
  | _ => rfl

/-- Taking a request leaves every port's attachment as it was. -/
@[simp] theorem State.isAttached_taken (q : PortId) : (s.taken p t).isAttached q = s.isAttached q := by
  by_cases h : q = p
  · subst h
    simp [State.isAttached, PortController.taking, restartedSilence_isAttached]
  · simp [State.isAttached, State.port_taken_of_ne h]

/-- A fall of SELn that is taken leaves one transaction more, the newest. -/
theorem State.port_beginTransaction (h : s.inReset = false) (hp : (s.port p).state ≠ .offline) :
    (s.beginTransaction p).port p =
      { s.port p with
        transactions := (s.port p).transactions ++
          [{ began := (s.port p).held.state, slot := s.chosenSlot p }] } := by
  simp [State.beginTransaction, h, hp]

/-- The end of a transaction leaves one transaction less, the oldest. -/
@[simp] theorem State.port_closeTransaction :
    (s.closeTransaction p).port p =
      { s.port p with transactions := (s.port p).transactions.tail } := by
  simp [State.closeTransaction]

/-- A good request under the NONE or READY case that the repeat record does not answer is executed. -/
theorem State.endGood_takes {tag crc : Half} (h : s.Takes p t tag crc) (command : State → Reply) :
    s.endGood p tag crc command =
      (command (s.taken p t)).state.setPort p
        (((command (s.taken p t)).state.port p).answered (command (s.taken p t)).state.hubTime tag crc
          (command (s.taken p t)).status (command (s.taken p t)).payload) := by
  obtain ⟨ht, hb, hr⟩ := h
  have key : (((s.closeTransaction p).goodFrame p).delivered p t) = s.taken p t := by
    simp [State.closeTransaction, State.goodFrame, State.delivered, State.taken, PortController.taking]
  have hrep : ((s.taken p t).port p).repeated tag crc = none := by
    simpa [PortController.taking, PortController.repeated] using hr
  have main : ((s.closeTransaction p).goodFrame p |>.delivered p t).handleGood p tag crc command =
      (command (s.taken p t)).state.setPort p
        (((command (s.taken p t)).state.port p).answered (command (s.taken p t)).state.hubTime tag crc
          (command (s.taken p t)).status (command (s.taken p t)).payload) := by
    rw [key]
    unfold State.handleGood
    rw [hrep]
    simp [State.execute, State.hold, PortController.answered, repeatAfter, Config.readinessDelay]
  unfold State.endGood
  rw [ht]
  rcases hb with hb | hb <;> simp only [hb] <;> exact main

/-- A command taken for execution ends with its reply held. -/
theorem State.endGood_executes {tag : Half} {c : Command} (h : s.Executes p t tag c)
    (command : State → Reply) :
    s.endGood p tag (requestCrc tag c) command =
      (command (s.taken p t)).state.answered p tag c (command (s.taken p t)).status
        (command (s.taken p t)).payload :=
  State.endGood_takes h command

/-- Without a transaction in progress nothing happens (R161). -/
theorem State.endGood_none {tag crc : Half} (h : (s.port p).transaction = none)
    (command : State → Reply) : s.endGood p tag crc command = s := by
  unfold State.endGood; rw [h]

theorem State.endBad_none (h : (s.port p).transaction = none) : s.endBad p = s := by
  unfold State.endBad; rw [h]

theorem State.endShort_none (h : (s.port p).transaction = none) : s.endShort p = s := by
  unfold State.endShort; rw [h]

theorem State.endTransaction_none (h : (s.port p).transaction = none) (sdi : List Bool) :
    s.endTransaction p sdi = s := by
  unfold State.endTransaction
  split
  · exact State.endShort_none h
  · split
    · exact State.endBad_none h
    · exact State.endGood_none h _
    · exact State.endGood_none h _

/-- An ATTACHED port's command is taken; the guard of R150 passes. -/
theorem State.attachedOnly_attached (h : s.isAttached p = true) (r : Reply) : s.attachedOnly p r = r := by
  simp [State.attachedOnly, h]

theorem State.attachedOnly_refused (h : s.isAttached p = false) (r : Reply) :
    s.attachedOnly p r = refuse s .notAttached := by
  simp [State.attachedOnly, h]

end Sys2Proof.Machine
end

