-- ==== Sys2Proof/Laws/PerInstr.lean ====
section
/-!
SUPPORT. The family Spelling: a row that stands for a command of R180 is well formed, and its request
spells that row and no other, in a length R162 admits.
-/
namespace Sys2Proof.Laws

open Sys2Proof.Machine

/-- R162, R180: the row's request, if it has one, spells the row, and its LEN lies in 3 to 60. -/
def Spelling.Statement (i : Instr) : Prop :=
  ∀ p tag c, i.request = some (p, tag, c) →
    Instr.ofRequest p tag c = i ∧ i.wellFormed = true ∧ 3 ≤ c.len ∧ c.len ≤ 60

/-- R180: LEN is 3 (the commands without parameters) to 19 (WATCH_SET). -/
theorem Spelling.len_bounds (c : Command) : 3 ≤ c.len ∧ c.len ≤ 60 := by
  cases c <;> exact ⟨Nat.le_add_left 3 _, Nat.le_of_ble_eq_true rfl⟩

/-- A row with no request has nothing to spell. -/
theorem Spelling.of_none {i : Instr} (h : i.request = none) : Spelling.Statement i := by
  intro p tag c hc
  rw [h] at hc
  cases hc

/-- A row with a request, from its one value. -/
theorem Spelling.of_some {i : Instr} {p : PortId} {tag : Half} {c : Command}
    (h : i.request = some (p, tag, c))
    (key : Instr.ofRequest p tag c = i ∧ i.wellFormed = true ∧ 3 ≤ c.len ∧ c.len ≤ 60) :
    Spelling.Statement i := by
  intro p' tag' c' hc
  rw [h] at hc
  cases hc
  exact key

/-! ## One lemma a constructor -/

theorem Spelling.hubReset :
    Spelling.Statement .hubReset :=
  Spelling.of_none rfl

theorem Spelling.hubResetRelease :
    Spelling.Statement .hubResetRelease :=
  Spelling.of_none rfl

theorem Spelling.portResetAssert (p : PortId) :
    Spelling.Statement (.portResetAssert p) :=
  Spelling.of_none rfl

theorem Spelling.portResetRelease (p : PortId) :
    Spelling.Statement (.portResetRelease p) :=
  Spelling.of_none rfl

theorem Spelling.transactionStart (p : PortId) :
    Spelling.Statement (.transactionStart p) :=
  Spelling.of_none rfl

theorem Spelling.shortTransaction (p : PortId) (sdi : List Bool) :
    Spelling.Statement (.shortTransaction p sdi) :=
  Spelling.of_none rfl

theorem Spelling.linkError (p : PortId) (sdi : List Bool) :
    Spelling.Statement (.linkError p sdi) :=
  Spelling.of_none rfl

theorem Spelling.requestDiscarded (p : PortId) (sdi : List Bool) :
    Spelling.Statement (.requestDiscarded p sdi) :=
  Spelling.of_none rfl

theorem Spelling.repeatRequest (p : PortId) (sdi : List Bool) :
    Spelling.Statement (.repeatRequest p sdi) :=
  Spelling.of_none rfl

theorem Spelling.unknownCommand (p : PortId) (sdi : List Bool) :
    Spelling.Statement (.unknownCommand p sdi) :=
  Spelling.of_none rfl

theorem Spelling.nop (p : PortId) (tag : Half) :
    Spelling.Statement (.nop p tag) :=
  Spelling.of_some rfl ⟨rfl, rfl, Spelling.len_bounds _⟩

theorem Spelling.hello (p : PortId) (tag : Half) (client : Word) :
    Spelling.Statement (.hello p tag client) :=
  Spelling.of_some rfl ⟨rfl, rfl, Spelling.len_bounds _⟩

theorem Spelling.bind (p : PortId) (tag : Half) (attention : Byte) (silenceMs : Half) :
    Spelling.Statement (.bind p tag attention silenceMs) :=
  Spelling.of_some rfl ⟨rfl, rfl, Spelling.len_bounds _⟩

theorem Spelling.detach (p : PortId) (tag : Half) :
    Spelling.Statement (.detach p tag) :=
  Spelling.of_some rfl ⟨rfl, rfl, Spelling.len_bounds _⟩

theorem Spelling.portStatus (p : PortId) (tag : Half) :
    Spelling.Statement (.portStatus p tag) :=
  Spelling.of_some rfl ⟨rfl, rfl, Spelling.len_bounds _⟩

theorem Spelling.convert (p : PortId) (tag : Half) (channel gate priority : Byte) :
    Spelling.Statement (.convert p tag channel gate priority) :=
  Spelling.of_some rfl ⟨rfl, rfl, Spelling.len_bounds _⟩

theorem Spelling.cancel (p : PortId) (tag : Half) (target : Half) :
    Spelling.Statement (.cancel p tag target) :=
  Spelling.of_some rfl ⟨rfl, rfl, Spelling.len_bounds _⟩

theorem Spelling.queueStatus (p : PortId) (tag : Half) :
    Spelling.Statement (.queueStatus p tag) :=
  Spelling.of_some rfl ⟨rfl, rfl, Spelling.len_bounds _⟩

theorem Spelling.readResult (p : PortId) (tag : Half) (channel : Byte) :
    Spelling.Statement (.readResult p tag channel) :=
  Spelling.of_some rfl ⟨rfl, rfl, Spelling.len_bounds _⟩

theorem Spelling.fetch (p : PortId) (tag : Half) :
    Spelling.Statement (.fetch p tag) :=
  Spelling.of_some rfl ⟨rfl, rfl, Spelling.len_bounds _⟩

theorem Spelling.schedAdd (p : PortId) (tag : Half) (channel gate priority : Byte)
    (periodMs : Word) :
    Spelling.Statement (.schedAdd p tag channel gate priority periodMs) :=
  Spelling.of_some rfl ⟨rfl, rfl, Spelling.len_bounds _⟩

theorem Spelling.schedDelete (p : PortId) (tag : Half) (schedule : Byte) :
    Spelling.Statement (.schedDelete p tag schedule) :=
  Spelling.of_some rfl ⟨rfl, rfl, Spelling.len_bounds _⟩

theorem Spelling.schedPause (p : PortId) (tag : Half) (schedule : Byte) :
    Spelling.Statement (.schedPause p tag schedule) :=
  Spelling.of_some rfl ⟨rfl, rfl, Spelling.len_bounds _⟩

theorem Spelling.schedResume (p : PortId) (tag : Half) (schedule : Byte) :
    Spelling.Statement (.schedResume p tag schedule) :=
  Spelling.of_some rfl ⟨rfl, rfl, Spelling.len_bounds _⟩

theorem Spelling.schedStatus (p : PortId) (tag : Half) (schedule : Byte) :
    Spelling.Statement (.schedStatus p tag schedule) :=
  Spelling.of_some rfl ⟨rfl, rfl, Spelling.len_bounds _⟩

theorem Spelling.watchSet (p : PortId) (tag : Half) (slot channel : Byte) (low high hyst : Word)
    (notify priority : Byte) :
    Spelling.Statement (.watchSet p tag slot channel low high hyst notify priority) :=
  Spelling.of_some rfl ⟨rfl, rfl, Spelling.len_bounds _⟩

theorem Spelling.watchClear (p : PortId) (tag : Half) (slot : Byte) :
    Spelling.Statement (.watchClear p tag slot) :=
  Spelling.of_some rfl ⟨rfl, rfl, Spelling.len_bounds _⟩

theorem Spelling.readNotices (p : PortId) (tag : Half) (start : Byte) :
    Spelling.Statement (.readNotices p tag start) :=
  Spelling.of_some rfl ⟨rfl, rfl, Spelling.len_bounds _⟩

theorem Spelling.ackNotice (p : PortId) (tag : Half) (source : Byte) (generation : Half) :
    Spelling.Statement (.ackNotice p tag source generation) :=
  Spelling.of_some rfl ⟨rfl, rfl, Spelling.len_bounds _⟩

theorem Spelling.lease (p : PortId) (tag : Half) (group kind : Byte) (termMs : Word) :
    Spelling.Statement (.lease p tag group kind termMs) :=
  Spelling.of_some rfl ⟨rfl, rfl, Spelling.len_bounds _⟩

theorem Spelling.withdraw (p : PortId) (tag : Half) (target : Half) :
    Spelling.Statement (.withdraw p tag target) :=
  Spelling.of_some rfl ⟨rfl, rfl, Spelling.len_bounds _⟩

theorem Spelling.renew (p : PortId) (tag : Half) (group kind : Byte) (termMs : Word) :
    Spelling.Statement (.renew p tag group kind termMs) :=
  Spelling.of_some rfl ⟨rfl, rfl, Spelling.len_bounds _⟩

theorem Spelling.release (p : PortId) (tag : Half) (group : Byte) :
    Spelling.Statement (.release p tag group) :=
  Spelling.of_some rfl ⟨rfl, rfl, Spelling.len_bounds _⟩

theorem Spelling.groupStatus (p : PortId) (tag : Half) (group : Byte) :
    Spelling.Statement (.groupStatus p tag group) :=
  Spelling.of_some rfl ⟨rfl, rfl, Spelling.len_bounds _⟩

theorem Spelling.readChannel (p : PortId) (tag : Half) (channel : Byte) :
    Spelling.Statement (.readChannel p tag channel) :=
  Spelling.of_some rfl ⟨rfl, rfl, Spelling.len_bounds _⟩

theorem Spelling.readHub (p : PortId) (tag : Half) :
    Spelling.Statement (.readHub p tag) :=
  Spelling.of_some rfl ⟨rfl, rfl, Spelling.len_bounds _⟩

theorem Spelling.stageChannel (p : PortId) (tag : Half) (channel mask enabled reference : Byte)
    (gateLength settle : Half) (openLimit shortLimit : Tri) :
    Spelling.Statement (.stageChannel p tag channel mask enabled reference gateLength settle openLimit shortLimit) :=
  Spelling.of_some rfl ⟨rfl, rfl, Spelling.len_bounds _⟩

theorem Spelling.stageReference (p : PortId) (tag : Half) (reference mask enabled : Byte)
    (settle cacheAgeMs holdOffMs : Half) :
    Spelling.Statement (.stageReference p tag reference mask enabled settle cacheAgeMs holdOffMs) :=
  Spelling.of_some rfl ⟨rfl, rfl, Spelling.len_bounds _⟩

theorem Spelling.stageHub (p : PortId) (tag : Half) (mask : Byte) (ageStepMs extWaitMs : Half) :
    Spelling.Statement (.stageHub p tag mask ageStepMs extWaitMs) :=
  Spelling.of_some rfl ⟨rfl, rfl, Spelling.len_bounds _⟩

theorem Spelling.unstage (p : PortId) (tag : Half) (selector : Byte) :
    Spelling.Statement (.unstage p tag selector) :=
  Spelling.of_some rfl ⟨rfl, rfl, Spelling.len_bounds _⟩

theorem Spelling.commit (p : PortId) (tag : Half) (selector : Byte) :
    Spelling.Statement (.commit p tag selector) :=
  Spelling.of_some rfl ⟨rfl, rfl, Spelling.len_bounds _⟩

theorem Spelling.responseReady (p : PortId) :
    Spelling.Statement (.responseReady p) :=
  Spelling.of_none rfl

theorem Spelling.bindWindowExpiry (p : PortId) :
    Spelling.Statement (.bindWindowExpiry p) :=
  Spelling.of_none rfl

theorem Spelling.silenceExpiry (p : PortId) :
    Spelling.Statement (.silenceExpiry p) :=
  Spelling.of_none rfl

theorem Spelling.leaseExpiry (g : GroupId) :
    Spelling.Statement (.leaseExpiry g) :=
  Spelling.of_none rfl

theorem Spelling.scheduleDue (i : ScheduleId) :
    Spelling.Statement (.scheduleDue i) :=
  Spelling.of_none rfl

theorem Spelling.holdOffExpiry (r : RefId) :
    Spelling.Statement (.holdOffExpiry r) :=
  Spelling.of_none rfl

theorem Spelling.cacheExpiry (r : RefId) :
    Spelling.Statement (.cacheExpiry r) :=
  Spelling.of_none rfl

theorem Spelling.agingCapExpiry (position : Fin 24) :
    Spelling.Statement (.agingCapExpiry position) :=
  Spelling.of_none rfl

theorem Spelling.settleEnd :
    Spelling.Statement .settleEnd :=
  Spelling.of_none rfl

theorem Spelling.gateClose :
    Spelling.Statement .gateClose :=
  Spelling.of_none rfl

theorem Spelling.stall :
    Spelling.Statement .stall :=
  Spelling.of_none rfl

theorem Spelling.pairDeadlineExpiry :
    Spelling.Statement .pairDeadlineExpiry :=
  Spelling.of_none rfl

theorem Spelling.oscillatorEdge :
    Spelling.Statement .oscillatorEdge :=
  Spelling.of_none rfl

theorem Spelling.gateRisingEdge :
    Spelling.Statement .gateRisingEdge :=
  Spelling.of_none rfl

theorem Spelling.hubTimeAdvance :
    Spelling.Statement .hubTimeAdvance :=
  Spelling.of_none rfl

end Sys2Proof.Laws
end

