-- ==== Sys2Proof/Tests/Slice0.lean ====
section
/-!
SUPPORT. The author's tests: the checks of WellFormed, the manual's own numbers, one or two small tests a
command, and for each statement with hypotheses a state and operands that meet them (`witness_<Name>`).
-/
namespace Sys2Proof.Tests

-- One theorem after the other: each elaboration thread takes its own stack.
set_option Elab.async false

open Sys2Proof Sys2Proof.Machine

/-! ## Small states -/

def noFlags : LinkFlags :=
  { backlog := false, isRepeat := false, cqNonempty := false, noticesPending := false }

def idleSlot : Slot := { status := .idle, tagEcho := 0, flags := noFlags, payload := [], crc := 0 }

/-- A transaction that began with the held response in the given state. -/
def tx (began : HeldState) : Transaction := { began := began, slot := idleSlot }

def attached : PortState :=
  .attached { client := 7, attention := true, silenceMs := 0, silenceDeadline := none }

def port (state : PortState) (began : HeldState) : PortController :=
  { PortController.reset state with transactions := [tx began] }

/-- Every channel enabled on reference A, which is enabled. -/
def configured : ChannelTable :=
  { channels := Table.fill 12
      { settings := { enabled := true, reference := .a, gateLength := 1000, settle := 200,
                      openLimit := 16, shortLimit := 8000000 }
        revision := 1 }
    refs := ⟨{ enabled := true, settle := 200, cacheAgeMs := 2000, holdOffMs := 1000 }, RefRecord.reset⟩
    ageStepMs := 500
    extWaitMs := 50 }

def unknownA : RefHealth := { state := .unknown, cache := none, cacheExpiry := none, holdOff := none }

/-- Configured, hub time 1,000, nothing held by anyone. -/
def calm : State :=
  ((State.reset.setConfig configured).setHubTime 1000).setEngine
    { conversion := none, edgeCounter := 0, health := ⟨unknownA, RefHealth.reset⟩ }

/-- `calm` with port 0 ATTACHED and a transaction on it that began with no response held. -/
def serving : State := calm.setPort 0 (port attached .none)

theorem serving_serves (tag : Half) (c : Command) : serving.Serves 0 (tx .none) tag c :=
  ⟨⟨rfl, .inl rfl, rfl⟩, rfl⟩

def waiter (p : PortId) (tag : Half) : Waiter := { port := p, origin := .direct tag, priority := 1 }

def scheduled (p : PortId) (i : ScheduleId) : Waiter := { port := p, origin := .schedule i, priority := 1 }

def entry (c : ChannelId) (g : GateSource) (state : EntryState) (waiters : List Waiter) : Entry :=
  { channel := c, gate := g, state := state, arrival := 0, created := 0, agingDeadline := some 2147483647,
    waiters := waiters }

/-- 24 PENDING entries of port 1, one for each key. -/
def fullQueue : List Entry :=
  (everyIndex 12).flatMap fun c =>
    [entry c .timebase .pending [waiter 1 0], entry c .external .pending [waiter 1 0]]

def conversion (g : GateSource) (ref : Option Measured) (phase : Phase) : Conversion :=
  { channel := 2, gate := g, reference := .a, revision := 1, fromCache := false, refCount := ref,
    phase := phase }

/-- The engine converts channel 2 for port 0. -/
def converting (g : GateSource) (ref : Option Measured) (phase : Phase) : State :=
  (serving.setConversion (some (conversion g ref phase))).setEntries [entry 2 g .inFlight [waiter 0 9]]

/-- The same in a count phase whose gate has counted the given edges. -/
def counting (g : GateSource) (ref : Option Measured) (edges : Tri) (opened stallAt bound : Time) : State :=
  (converting g ref (.count opened stallAt bound)).setEdgeCounter edges

def record (p : PortId) (tag : Half) : Completion :=
  .request (.direct tag) 2 .timebase .aborted (BitVec.ofNat 32 p.val)

def holding (p : PortId) (g : GroupId) (s : State) : State :=
  s.setGroup g { lease := .held p .configure 5000, waiting := [] }

def holdingAll (p : PortId) (s : State) : State := holding p 0 (holding p 1 (holding p 2 s))

def leaseRequest (p : PortId) (tag : Half) : LeaseRequest :=
  { port := p, tag := tag, kind := .configure, termMs := 10 }

def contended (holder : PortId) (waiters : List LeaseRequest) (s : State) : State :=
  s.setGroup 2 { lease := .held holder .exclusive 5000, waiting := waiters }

def schedule (owner : PortId) (state : ScheduleState) : Schedule :=
  { owner := owner, channel := 2, gate := .timebase, priority := 1, periodMs := 100, state := state,
    missCount := 0, runCount := 0, lastMiss := .none }

def watch : Watch :=
  { channel := 4, low := 98304, high := 163840, hyst := 16384
    notify := { below := true, inside := false, above := true, fault := true }, priority := 2
    zone := .unknown }

def notice (source : SlotId) (generation : Half) : Notice :=
  { content := .watch source .above none 1, changes := 1, generation := generation, firstRaised := 0,
    priority := 2 }

def after (i : Instr) (s : State) : State :=
  match exec i s with
  | .next t => t
  | .fault _ => s
  | .refused _ => s

/-- The response a port prepares: its status and its payload. -/
def answerOn (p : PortId) (s : State) : Option (Status × List Byte) :=
  match (s.port p).held with
  | .preparing r _ => some (r.status, r.payload)
  | _ => none

def answerTo (i : Instr) (s : State) : Option (Status × List Byte) := answerOn 0 (after i s)

/-! ## WellFormed: each check refuses an ill-formed term -/

def ones (n : Nat) : List Bool := List.replicate n true

def bitsOf (bytes : List Byte) : List Bool :=
  bitsOfBytes (bytes ++ List.replicate (64 - bytes.length) 0)

/-- R182, R163: a request slot written out: LEN, CMD, TAG, parameters, CRC. -/
def nopBytes : List Byte := [0x03, 0x00, 0x00, 0x03] ++ be16 (crc16 [0x03, 0x00, 0x00, 0x03])
def unknownBytes : List Byte := [0x03, 0x99, 0x00, 0x05] ++ be16 (crc16 [0x03, 0x99, 0x00, 0x05])
def untaggedBytes : List Byte := [0x03, 0x00, 0x00, 0x00] ++ be16 (crc16 [0x03, 0x00, 0x00, 0x00])

theorem test_wellFormed_short : (Instr.shortTransaction 0 (ones 512)).wellFormed = false ∧
    (Instr.shortTransaction 0 (ones 511)).wellFormed = true := by decide +kernel
theorem test_wellFormed_linkError : (Instr.linkError 0 (ones 511)).wellFormed = false ∧
    (Instr.linkError 0 (bitsOf nopBytes)).wellFormed = false ∧
    (Instr.linkError 0 (ones 512)).wellFormed = true := by decide +kernel
theorem test_wellFormed_discarded : (Instr.requestDiscarded 0 (ones 511)).wellFormed = false ∧
    (Instr.requestDiscarded 0 (ones 512)).wellFormed = true := by decide +kernel
theorem test_wellFormed_repeat : (Instr.repeatRequest 0 (bitsOf untaggedBytes)).wellFormed = false ∧
    (Instr.repeatRequest 0 (ones 512)).wellFormed = false ∧
    (Instr.repeatRequest 0 (bitsOf nopBytes)).wellFormed = true := by decide +kernel
theorem test_wellFormed_unknown : (Instr.unknownCommand 0 (bitsOf nopBytes)).wellFormed = false ∧
    (Instr.unknownCommand 0 (bitsOf unknownBytes)).wellFormed = true := by decide +kernel

/-! ## The manual's numbers -/

/-- R163: the CRC of the characters 1 to 9. -/
theorem test_crc_check_value :
    crc16 [0x31, 0x32, 0x33, 0x34, 0x35, 0x36, 0x37, 0x38, 0x39] = 0x29B1 := by decide +kernel

def limits : ChannelSettings :=
  { enabled := true, reference := .b, gateLength := 10000, settle := 500, openLimit := 50,
    shortLimit := 40000 }

def counted (count : Tri) (time : Word) : Measured := { count := count, time := time }

/-- Chapter 1, worked examples: ratio arithmetic. -/
theorem test_ratio_examples :
    classify { limits with openLimit := 16, shortLimit := 8000000 } .closed (counted 100 1000)
      (counted 40 1000) = (.ok, some 163840) ∧
    exactRatio (counted 4000 40000) (counted 1600 40010) = 163880 := by decide +kernel

/-- Chapter 1, worked examples: classification; the last is the OVERRANGE of 78,000. -/
theorem test_classification_examples :
    classify limits .closed (counted 10000 10000) (counted 20000 10000) = (.ok, some 32768) ∧
    classify limits .closed (counted 10000 10000) (counted 50000 10000) = (.short, none) ∧
    classify limits .closed (counted 10000 10000) (counted 40 10000) = (.open_, none) ∧
    classify limits .stalled (counted 10000 10000) (counted 42000 9000) = (.short, none) ∧
    classify limits .stalled (counted 10000 10000) (counted 0 2000) = (.open_, none) ∧
    classify { limits with openLimit := 1 } .closed (counted 1200 60) (counted 1 3900) =
      (.overrange, none) := by decide +kernel

/-- Chapter 6, worked example: slot 2's zones. -/
theorem test_zone_example :
    watch.nextZone (some 131072) = .inside ∧
    { watch with zone := .inside }.nextZone (some 170666) = .above ∧
    { watch with zone := .above }.nextZone (some 159843) = .above ∧
    { watch with zone := .above }.nextZone (some 145635) = .inside := by decide +kernel

/-- R22: a deadline is reached across the wrap of hub time, and 2^31 µs ahead it is not. -/
theorem test_reached : reached 0 0xFFFFFFFF = true ∧ reached 5 5 = true ∧ reached 4 5 = false ∧
    reached 0 0x7FFFFFFF = false := by decide +kernel

/-- R166, R182: the bytes of a response: LEN, STATUS, tag echo, flags, payload, CRC, padding. -/
theorem test_slot_bytes :
    (sealSlot { status := .accepted, tagEcho := 0x0105, payload := [0, 0, 0, 0, 0, 15],
                isRepeat := false } { noFlags with backlog := true }).bytes.take 11 =
      [10, 0x01, 0x01, 0x05, 8, 0, 0, 0, 0, 0, 15] := by decide +kernel

/-! ## One or two tests a command -/

theorem test_hubReset : (after .hubReset serving).inReset = true ∧
    (after .hubReset serving).hubTime = 0 := by decide +kernel
theorem test_hubResetRelease : (after .hubResetRelease (after .hubReset serving)).inReset = false := by
  decide +kernel
theorem test_portResetAssert : ((after (.portResetAssert 0) serving).port 0).state = .offline ∧
    ((after (.portResetAssert 0) serving).port 0).cause = .portReset := by decide +kernel
theorem test_portResetRelease :
    ((after (.portResetRelease 0) (after (.portResetAssert 0) serving)).port 0).state = .linked := by
  decide +kernel
theorem test_transactionStart :
    ((after (.transactionStart 1) serving).port 1).transaction.map (·.slot.status) = some .idle := by
  decide +kernel
/-- R190: two transactions shifted while HCLK is stopped. Both shift the READY response; both ends are then
taken, and the response held is the second request's. -/
theorem test_transactionsWhileStopped :
    let s := calm.setPort 0 { PortController.reset attached with held := .ready idleSlot }
    let both := after (.transactionStart 0) (after (.transactionStart 0) s)
    let shifted : Transaction := { began := .ready, slot := idleSlot }
    (both.port 0).transactions = [shifted, shifted] ∧ (both.port 0).shifting = some shifted ∧
    ((after (.nop 0 3) both).port 0).transactions.length = 1 ∧
    (answerOn 0 (after (.readHub 0 4) (after (.nop 0 3) both))).map Prod.fst = some .done ∧
    ((after (.readHub 0 4) (after (.nop 0 3) both)).port 0).transactions = [] := by decide +kernel
theorem test_shortTransaction :
    ((after (.shortTransaction 0 (ones 240)) serving).port 0).linkErrors = 1 ∧
    ((after (.shortTransaction 0 (ones 240)) serving).port 0).transaction = none := by decide +kernel
theorem test_linkError : answerTo (.linkError 0 (ones 512)) serving = some (.linkError, [0, 1]) := by
  decide +kernel
theorem test_requestDiscarded :
    ((after (.requestDiscarded 0 (bitsOf nopBytes))
      (serving.setPort 0 (port attached .interrupted))).port 0).backlog = true := by decide +kernel
theorem test_repeatRequest :
    answerTo (.repeatRequest 0 (bitsOf nopBytes))
      (serving.setPort 0 { port attached .none with
        repeatRecord := some
          { tag := 3, crc := crc16 [0x03, 0x00, 0x00, 0x03]
            response := { status := .accepted, tagEcho := 3, payload := [9], isRepeat := false } } }) =
      some (.accepted, [9]) := by decide +kernel
theorem test_unknownCommand :
    answerTo (.unknownCommand 0 (bitsOf unknownBytes)) serving = some (.unknownCommand, []) := by
  decide +kernel
theorem test_nop : answerTo (.nop 0 3) serving = some (.done, []) := by decide +kernel
/-- Chapter 11: the HELLO response after a hub reset. -/
theorem test_hello :
    answerTo (.hello 0 1 0x00A1C001) (calm.setPort 0 (port .linked .none)) =
      some (.done, [0x4B, 0x4A, 0x24, 0x10, 1, 0, 4, 0x00, 0x03, 0xD0, 0x90]) := by decide +kernel
/-- Chapter 11: the BIND response. -/
theorem test_bind :
    answerTo (.bind 0 2 1 5000) (calm.setPort 0 (port (.binding 0x00A1C001 251000) .none)) =
      some (.done, [0, 0x00, 0xA1, 0xC0, 0x01, 1, 0x13, 0x88, 16]) ∧
    answerTo (.bind 0 2 1 49) (calm.setPort 0 (port (.binding 1 251000) .none)) = some (.badParam, []) := by
  decide +kernel
theorem test_detach :
    answerTo (.detach 0 5) (serving.setCq 0 [record 0 1]) = some (.done, [0, 0, 0, 0, 0, 0, 0, 1]) ∧
    ((after (.detach 0 5) serving).port 0).cause = .detach := by decide +kernel
theorem test_portStatus : (answerTo (.portStatus 0 5) serving).map (·.2.take 6) = some [0, 3, 0, 0, 0, 7] := by
  decide +kernel
/-- Chapter 11: a CONVERT dispatched at once. -/
theorem test_convert :
    answerTo (.convert 0 0x0105 5 0 1) serving = some (.accepted, [0, 0, 0, 0, 0, 15]) ∧
    (after (.convert 0 0x0105 5 0 1) serving).engine.name = .settleRef ∧
    (after (.convert 0 0x0105 5 0 1) serving).selection = .reference .a := by decide +kernel
theorem test_cancel :
    answerTo (.cancel 0 5 9) (converting .timebase none (.settle 1200)) = some (.done, [2, 16]) ∧
    (after (.cancel 0 5 9) (converting .timebase none (.settle 1200))).engine.name = .idle := by
  decide +kernel
theorem test_queueStatus :
    answerTo (.queueStatus 0 5) (converting .timebase none (.settle 1200)) =
      some (.done, [1, 1, 2, 0, 15, 1, 2, 2, 1, 1]) := by decide +kernel
theorem test_readResult : (answerTo (.readResult 0 5 2) serving).map (·.2.length) = some 34 ∧
    answerTo (.readResult 0 5 12) serving = some (.badParam, []) := by decide +kernel
theorem test_fetch : answerTo (.fetch 0 5) serving = some (.empty, [16]) ∧
    (answerTo (.fetch 0 5) (serving.setCq 0 [record 0 1])).map (·.2.drop 39) = some [0, 16] := by
  decide +kernel
theorem test_schedAdd :
    answerTo (.schedAdd 0 5 2 0 0 1000) serving = some (.done, 0 :: be32 1001000) := by decide +kernel
theorem test_schedDelete :
    answerTo (.schedDelete 0 5 3) (serving.setSchedule 3 (some (schedule 0 .paused))) =
      some (.done, [0, 0, 0, 0, 0, 0, 0]) := by decide +kernel
theorem test_schedPause :
    answerTo (.schedPause 0 5 3) (serving.setSchedule 3 (some (schedule 0 (.active 9)))) =
      some (.done, []) := by decide +kernel
theorem test_schedResume :
    answerTo (.schedResume 0 5 3) (serving.setSchedule 3 (some (schedule 0 .paused))) =
      some (.done, be32 101000) := by decide +kernel
theorem test_schedStatus : (answerTo (.schedStatus 0 5 3) serving) =
    some (.notFound, [255, 255, 255, 255, 255, 255, 255, 255]) := by decide +kernel
theorem test_watchSet :
    answerTo (.watchSet 0 5 2 4 98304 163840 16384 0x0D 2) serving = some (.done, [0, 0]) ∧
    answerTo (.watchSet 0 5 2 4 98304 163840 32769 0x0D 2) serving = some (.badParam, []) := by
  decide +kernel
theorem test_watchClear : answerTo (.watchClear 0 5 2) serving = some (.notFound, []) := by decide +kernel

/-- Port 0 has a watch in slot 2 and its notice. -/
def noticed : State :=
  serving.setPortWatch 0
    { slots := (Table.fill 8 none).write 2 (some watch), notices := [notice 2 1]
      generations := (Table.fill 11 0).write 2 1 }

theorem test_readNotices :
    answerTo (.readNotices 0 5 0) noticed =
      some (.done, [0x10, 255, 255, 4, 255, 255, 255, 255, 255,
        0x2A, 1, 0, 1, 0, 0, 0, 0, 0, 0, 0, 1, 0, 0, 0, 0]) := by decide +kernel
theorem test_ackNotice : answerTo (.ackNotice 0 5 2 1) noticed = some (.done, [0]) ∧
    answerTo (.ackNotice 0 5 2 0) noticed = some (.stale, [0, 1, 0x2A]) := by decide +kernel
theorem test_lease : answerTo (.lease 0 5 1 0 2000) serving = some (.granted, 0 :: be32 2001000) ∧
    answerTo (.lease 0 5 1 1 1000) (holding 1 1 serving) = some (.queued, [1, 15]) := by decide +kernel
theorem test_withdraw :
    answerTo (.withdraw 0 5 8) (after (.lease 0 8 1 1 1000) (holding 1 1 serving) |>.setPort 0
      (port attached .none)) = some (.done, [1, 16]) := by decide +kernel
theorem test_renew :
    answerTo (.renew 0 5 1 1 1000) (holding 0 1 serving) = some (.done, be32 1001000) := by decide +kernel
theorem test_release :
    answerTo (.release 0 5 1) (holding 0 1 serving) = some (.done, [0, 0, 255]) := by decide +kernel
theorem test_groupStatus :
    answerTo (.groupStatus 0 5 1) (holding 0 1 serving) =
      some (.done, [1, 0, 0, 0, 0, 7, 0] ++ be32 4000 ++ [0, 0, 0]) := by decide +kernel
theorem test_readChannel :
    answerTo (.readChannel 0 5 2) serving =
      some (.done, [2, 1, 0] ++ be16 1000 ++ be16 200 ++ be24 16 ++ be24 8000000 ++ [0, 1, 2]) := by
  decide +kernel
theorem test_readHub : (answerTo (.readHub 0 5) serving).map (·.2.length) = some 21 := by decide +kernel
/-- Chapter 11: staging channel 5's enabled field. -/
theorem test_stageChannel :
    answerTo (.stageChannel 0 5 5 1 1 0 0 0 0 0) (holding 0 1 serving) =
      some (.done, [5, 1, 1, 0, 0, 0, 0, 0, 0, 0, 0, 0, 0, 0]) ∧
    answerTo (.stageChannel 0 5 5 4 0 0 99 0 0 0) (holding 0 1 serving) = some (.badParam, []) := by
  decide +kernel
theorem test_stageReference :
    answerTo (.stageReference 0 5 0 1 1 0 0 0) (holdingAll 0 serving) =
      some (.done, [0, 1, 1, 0, 0, 0, 0, 0, 0]) := by decide +kernel
theorem test_stageHub :
    answerTo (.stageHub 0 5 2 0 100) (holdingAll 0 serving) = some (.done, [2, 0, 0, 0, 100]) ∧
    answerTo (.stageHub 0 5 2 0 100) (holding 0 1 serving) = some (.notHolder, []) := by decide +kernel

/-- Port 0 holds G1 and has channel 5's gate length staged. -/
def staged : State :=
  (holding 0 1 serving).setStaging
    ((Table.fill 12 none).write 5 (some { StagedChannel.blank with gateLength := some 5000 }))

theorem test_unstage : answerTo (.unstage 0 5 5) staged = some (.done, []) ∧
    answerTo (.unstage 0 5 6) staged = some (.notFound, []) := by decide +kernel
theorem test_commit :
    answerTo (.commit 0 5 1) staged = some (.done, [0, 0x20, 0, 2, 0, 0, 0]) ∧
    answerTo (.commit 0 5 1) (staged.setStaging ((Table.fill 12 none).write 5
      (some { StagedChannel.blank with shortLimit := some 2 }))) = some (.rejected, [5]) := by
  decide +kernel
theorem test_responseReady :
    ((after (.responseReady 0) ((after (.nop 0 3) serving).setHubTime 1005)).port 0).held.state = .ready ∧
    ((after (.responseReady 0) ((after (.nop 0 3) serving).setHubTime 1004)).port 0).held.state =
      .preparing := by decide +kernel
theorem test_bindWindowExpiry :
    ((after (.bindWindowExpiry 0) (calm.setPort 0 (port (.binding 1 1000) .none))).port 0).state =
      .linked := by decide +kernel

/-- Port 0 is ATTACHED with a silence deadline that is reached. -/
def silent : State :=
  calm.setPort 0 { port attached .none with
    state := .attached { client := 7, attention := true, silenceMs := 50, silenceDeadline := some 1000 } }

theorem test_silenceExpiry : ((after (.silenceExpiry 0) silent).port 0).state = .linked ∧
    ((after (.silenceExpiry 0) silent).port 0).cause = .silence := by decide +kernel
theorem test_leaseExpiry :
    ((after (.leaseExpiry 1) ((holding 0 1 serving).setHubTime 5000)).group 1).lease = .free ∧
    ((after (.leaseExpiry 1) ((holding 0 1 serving).setHubTime 5000)).portWatch 0).notices.map
      (·.content) = [.group 1 false true] := by decide +kernel
theorem test_scheduleDue :
    ((after (.scheduleDue 3) (serving.setSchedule 3 (some (schedule 0 (.active 1000))))).schedule 3).map
      (·.state) = some (.active 101000) ∧
    (after (.scheduleDue 3) (serving.setSchedule 3 (some (schedule 0 (.active 1000))))).engine.name =
      .settleRef := by decide +kernel

/-- Reference A is FAULTED with a hold-off, or VALID with a cache, each deadline reached. -/
def faulted : State :=
  serving.setHealth .a { state := .faulted, cache := none, cacheExpiry := none, holdOff := some 1000 }
def cached : State :=
  serving.setHealth .a
    { state := .valid, cache := some { count := 100, gateLength := 1000, taken := 500 }
      cacheExpiry := some 1000, holdOff := none }

theorem test_holdOffExpiry : ((after (.holdOffExpiry .a) faulted).health .a).state = .unknown := by
  decide +kernel
theorem test_cacheExpiry : ((after (.cacheExpiry .a) cached).health .a).cache = none ∧
    ((after (.cacheExpiry .a) cached).health .a).state = .valid := by decide +kernel
theorem test_agingCapExpiry :
    (after (.agingCapExpiry 0) ((serving.setEntries [entry 2 .timebase .pending
      [waiter 0 9]]).setHubTime 2147483647)).entries.map (·.agingDeadline) = [none] := by decide +kernel
theorem test_settleEnd :
    (after .settleEnd (converting .timebase none (.settle 1000))).engine.name = .countRef ∧
    (after .settleEnd (converting .external none (.settle 1000))).engine.name = .armRef := by
  decide +kernel
/-- Chapter 2: N_ref 100 makes A VALID, and the counter keeps it in SETTLE_SENS; N_sens 40 publishes the
ratio 2.5, and the counter is 0 in IDLE. -/
theorem test_gateClose :
    (after .gateClose (counting .timebase none 100 0 2000 1000)).engine.name = .settleSens ∧
    (after .gateClose (counting .timebase none 100 0 2000 1000)).engine.edgeCounter = 100 ∧
    ((after .gateClose (counting .timebase (some (counted 100 1000)) 40 0 2000 1000)).result 2).outcome.map
      (·.ratio) = some (some 163840) ∧
    (after .gateClose (counting .timebase (some (counted 100 1000)) 40 0 2000 1000)).engine.edgeCounter =
      0 := by decide +kernel
theorem test_stall :
    ((after .stall (counting .timebase none 0 0 1000 5000)).health .a).state = .faulted ∧
    ((after .stall (counting .timebase none 0 0 1000 5000)).result 2).outcome.map (·.status) =
      some .refFault := by decide +kernel
theorem test_pairDeadlineExpiry :
    ((after .pairDeadlineExpiry (converting .external (some (counted 8000 40000))
      (.arm 1000))).result 2).outcome.map (fun o => (o.status, o.ref)) =
      some (.gateTimeout, some (counted 8000 40000)) := by decide +kernel
theorem test_oscillatorEdge :
    (after .oscillatorEdge (counting .timebase none 41 500 2000 5000)).engine.edgeCounter = 42 ∧
    ((after .oscillatorEdge (counting .timebase (some (counted 100 1000)) 16777215 500 2000
      5000)).result 2).outcome.map (·.status) = some .short := by decide +kernel
theorem test_gateRisingEdge :
    (after .gateRisingEdge (converting .external none (.arm 5000))).engine.name = .countRef ∧
    (after .gateRisingEdge (counting .external none 9 951 2000 5000)).engine.name = .countRef ∧
    (after .gateRisingEdge (counting .external none 9 950 2000 5000)).engine.name = .settleSens := by
  decide +kernel
theorem test_hubTimeAdvance : (after .hubTimeAdvance (calm.setHubTime 0xFFFFFFFF)).hubTime = 0 := by
  decide +kernel

/-! ## Witnesses: states and operands that meet the statements' hypotheses

A theorem witness_<Name> belongs to Obligations.<Name>. Its parts are the hypotheses of the statement's
clauses, in their order, at the boundary values of the ranges they name. -/

/-- Port 0 takes a request for execution while LINKED, and while BINDING. -/
def onLinked : State := calm.setPort 0 (port .linked .none)
def onBinding : State := calm.setPort 0 (port (.binding 7 251000) .ready)

def response : Response := { status := .done, tagEcho := 3, payload := [], isRepeat := false }

/-- Port 0 of `calm` with a held response and no transaction. -/
def heldOn (h : Held) : State := calm.setPort 0 { PortController.reset attached with held := h }

/-- Port 0 of `calm` with a transaction that began as told, and a repeat record for a NOP of tag 3. -/
def recorded (began : HeldState) : State :=
  calm.setPort 0 { port attached began with
    repeatRecord := some { tag := 3, crc := requestCrc 3 .nop, response := response } }

def inHubReset : State := State.reset.resetBlocks true

def offline0 : State := calm.setPort 0 (PortController.reset .offline)

theorem witness_StepTakesFrontCommand : State.reset.pending = [] := rfl

theorem witness_HubResetGivesResetValues : inHubReset.inReset = true ∧ calm.inReset = false ∧
    (inHubReset.port 0).state ≠ .offline ∧ (offline0.port 0).state = .offline := by decide +kernel

theorem witness_HubResetHoldsStill : inHubReset.inReset = true ∧ inHubReset.ResetSound ∧
    Instr.nop 0 3 ≠ .hubResetRelease ∧ (∀ p, Instr.nop 0 3 ≠ .portResetAssert p) ∧
    ∀ p, Instr.nop 0 3 ≠ .portResetRelease p :=
  ⟨rfl, fun _ => by decide +kernel, nofun, nofun, nofun⟩

theorem witness_PortResetTakesPortOffline : serving.inReset = false ∧
    (serving.port 0).state ≠ .offline ∧ serving.isAttached 0 = true ∧
    (onLinked.port 0).state ≠ .offline ∧ onLinked.isAttached 0 = false ∧
    offline0.inReset = false ∧ (offline0.port 0).state = .offline ∧ inHubReset.inReset = true := by
  decide +kernel

theorem witness_TeardownLeavesNothing :
    (serving.setSchedule 7 (some (schedule 1 .paused))).schedule 7 = some (schedule 1 .paused) ∧
    (schedule 1 .paused).owner ≠ 0 ∧ (1 : PortId) ≠ 0 ∧
    -- the conversion in flight is lost, and it is kept
    (∃ f ∈ (converting .timebase none (.settle 1200)).entries, f.state = .inFlight ∧
      (f.waiters.filter fun w => decide (w.port ≠ 0)) = []) ∧
    (¬∃ f ∈ ((converting .timebase none (.settle 1200)).setEntries
        [entry 2 .timebase .inFlight [waiter 0 9, waiter 1 9]]).entries, f.state = .inFlight ∧
      (f.waiters.filter fun w => decide (w.port ≠ 0)) = []) ∧
    -- a group held by the port with no, one and two requests of others, and one it does not hold
    (contended 0 [] serving).holder 2 = some 0 ∧ ((contended 0 [] serving).group 2).waiting = [] ∧
    (let s := contended 0 [leaseRequest 1 8] serving
     s.holder 2 = some 0 ∧ (s.group 2).waiting.filter (fun q => decide (q.port ≠ 0)) =
      [leaseRequest 1 8] ∧ (leaseRequest 1 8).port = 1) ∧
    (let s := contended 0 [leaseRequest 1 8, leaseRequest 2 8] serving
     s.holder 2 = some 0 ∧ (s.group 2).waiting.filter (fun q => decide (q.port ≠ 0)) =
      [leaseRequest 1 8, leaseRequest 2 8]) ∧
    (contended 1 [leaseRequest 0 8] serving).holder 2 ≠ some 0 ∧
    -- every group held, and not every one
    (holdingAll 0 serving).holdsAll 0 = true ∧ (contended 0 [] serving).holdsAll 0 = false := by
  decide +kernel

theorem witness_FallOfSelChoosesSlot :
    calm.inReset = false ∧ (calm.port 0).state ≠ .offline ∧ (calm.port 0).held = .none ∧
    ((heldOn (.preparing response 1005)).port 0).held = .preparing response 1005 ∧
    ((heldOn (.ready idleSlot)).port 0).held = .ready idleSlot ∧
    ((heldOn (.interrupted idleSlot)).port 0).held = .interrupted idleSlot ∧
    -- behind a transaction whose end is not taken
    (serving.port 0).transaction = some (tx .none) ∧ (serving.port 0).held = .none ∧
    inHubReset.inReset = true ∧ (offline0.port 0).state = .offline := by decide +kernel

theorem witness_ShortTransactionInterrupts : (serving.port 0).transaction = some (tx .none) ∧
    (ones 511).length < 512 ∧ (ones 0).length < 512 ∧ (tx .none).began ≠ .ready ∧
    ((calm.setPort 0 { port attached .ready with held := .ready idleSlot }).port 0).held =
      .ready idleSlot ∧
    (tx .ready).began = .ready ∧ (serving.port 0).held = .none := by decide +kernel

/-- R162: LEN 2 and LEN 61 lie just outside its range. -/
theorem witness_BadRequestAnsweredLinkError :
    (serving.port 0).transaction = some (tx .none) ∧ (tx .none).began = .none ∧
    (onBinding.port 0).transaction = some (tx .ready) ∧ (tx .ready).began = .ready ∧
    512 ≤ (bitsOf [2]).length ∧ checkRequest (receivedSlot (bitsOf [2])) = .bad ∧
    checkRequest (receivedSlot (bitsOf [61])) = .bad := by decide +kernel

theorem witness_RequestDiscardedUnexecuted :
    512 ≤ (bitsOf nopBytes).length ∧ checkRequest (receivedSlot (bitsOf nopBytes)) ≠ .bad ∧
    checkRequest (receivedSlot (ones 512)) = .bad ∧
    ((recorded .interrupted).port 0).transaction = some (tx .interrupted) ∧
    ((recorded .preparing).port 0).transaction = some (tx .preparing) ∧
    (calm.port 0).transaction = none := by decide +kernel

theorem witness_RepeatAnsweredFromRecord :
    ((recorded .none).port 0).transaction = some (tx .none) ∧
    ((recorded .ready).port 0).transaction = some (tx .ready) ∧
    ((recorded .none).port 0).repeatRecord =
      some { tag := 3, crc := requestCrc 3 .nop, response := response } ∧ (3 : Half) ≠ 0 ∧
    512 ≤ (bitsOf nopBytes).length ∧
    checkRequest (receivedSlot (bitsOf nopBytes)) = .good 3 (requestCrc 3 .nop) .nop ∧
    checkRequest (receivedSlot (bitsOf unknownBytes)) =
      .unknown 5 (crc16 [0x03, 0x99, 0x00, 0x05]) ∧
    (Instr.nop 0 3).request = some (0, 3, .nop) := by decide +kernel

theorem witness_UnknownCommandRefused : 512 ≤ (bitsOf unknownBytes).length ∧
    checkRequest (receivedSlot (bitsOf unknownBytes)) = .unknown 5 (crc16 [0x03, 0x99, 0x00, 0x05]) ∧
    serving.Takes 0 (tx .none) 5 (crc16 [0x03, 0x99, 0x00, 0x05]) :=
  ⟨by decide +kernel, by decide +kernel, rfl, .inl rfl, rfl⟩

theorem witness_ResponseBecomesReady :
    ((heldOn (.preparing response 1000)).port 0).held = .preparing response 1000 ∧
    reached calm.hubTime 1000 = true ∧
    ((heldOn (.preparing response 1001)).port 0).held = .preparing response 1001 ∧
    reached calm.hubTime 1001 = false ∧ (calm.port 0).held = .none := by decide +kernel

/-- The shortest and the longest command (R180). -/
theorem witness_RequestSlotReadsBack :
    (requestSlot 0 .nop (List.replicate 58 0)).length = 64 ∧
    (requestSlot 65535 (.watchSet 7 11 0 0 0 15 3) (List.replicate 42 255)).length = 64 := by
  decide +kernel

theorem witness_BitsAndCommandRowAgree :
    (requestSlot 3 .nop (List.replicate 58 0)).length = 64 := by decide +kernel

theorem witness_StatusCodesAndSlotLayout :
    response.payload.length ≤ 57 ∧
    ({ response with payload := List.replicate 57 0 } : Response).payload.length ≤ 57 := by
  decide +kernel

theorem witness_ReportsChangeNoState :
    (∀ c, serving.Serves 0 (tx .none) 3 c) ∧ onLinked.Executes 0 (tx .none) 3 .nop ∧
    onBinding.Executes 0 (tx .ready) 3 .portStatus ∧
    numbered 12 11 = some 11 ∧ numbered 12 12 = none ∧ numbered 8 7 = some 7 ∧ numbered 8 8 = none ∧
    (serving.setSchedule 7 (some (schedule 0 .paused))).Serves 0 (tx .none) 3 (.schedStatus 7) ∧
    (serving.setSchedule 7 (some (schedule 0 .paused))).schedule 7 = some (schedule 0 .paused) ∧
    serving.schedule 7 = none ∧ (10 : Byte).toNat ≤ 10 ∧ 10 < (11 : Byte).toNat ∧
    numbered 3 2 = some 2 ∧ numbered 3 3 = none :=
  ⟨fun c => serving_serves 3 c, ⟨rfl, .inl rfl, rfl⟩, ⟨rfl, .inr rfl, rfl⟩, by decide +kernel,
   by decide +kernel, by decide +kernel, by decide +kernel, ⟨⟨rfl, .inl rfl, rfl⟩, rfl⟩,
   by decide +kernel⟩

theorem witness_UnattachedPortRefuses :
    (Instr.fetch 0 5).request = some (0, 5, .fetch) ∧ onLinked.Executes 0 (tx .none) 5 .fetch ∧
    onLinked.isAttached 0 = false ∧ Command.fetch ≠ .nop ∧ Command.fetch ≠ .portStatus ∧
    (∀ client, Command.fetch ≠ .hello client) ∧ ∀ a ms, Command.fetch ≠ .bind a ms :=
  ⟨rfl, ⟨rfl, .inl rfl, rfl⟩, rfl, nofun, nofun, nofun, nofun⟩

theorem witness_HelloStartsBinding :
    onLinked.Executes 0 (tx .none) 1 (.hello 9) ∧ (onLinked.port 0).state = .linked ∧
    onBinding.Executes 0 (tx .ready) 1 (.hello 9) ∧ (onBinding.port 0).state = .binding 7 251000 ∧
    serving.Executes 0 (tx .none) 1 (.hello 9) ∧ serving.isAttached 0 = true :=
  ⟨⟨rfl, .inl rfl, rfl⟩, rfl, ⟨rfl, .inr rfl, rfl⟩, rfl, ⟨rfl, .inl rfl, rfl⟩, rfl⟩

/-- A port of `calm` that is not ATTACHED holds nothing. -/
theorem calm_holdsNothing (p : PortId) : calm.HoldsNothing p where
  credits := by revert p; decide +kernel
  schedules := by
    intro i x h
    have free : ∀ i, calm.schedule i = none := by decide +kernel
    rw [free] at h
    cases h
  watches := by revert p; decide +kernel
  groups := by revert p; decide +kernel

theorem witness_BindAttachesPort :
    (∀ a ms, onBinding.Executes 0 (tx .ready) 2 (.bind a ms)) ∧
    (onBinding.port 0).state = .binding 7 251000 ∧ yesNo 1 = some true ∧ yesNo 0 = some false ∧
    50 ≤ (50 : Half).toNat ∧ (60000 : Half).toNat ≤ 60000 ∧ yesNo 2 = none ∧
    ¬((49 : Half) = 0 ∨ (50 ≤ (49 : Half).toNat ∧ (49 : Half).toNat ≤ 60000)) ∧
    ¬((60001 : Half) = 0 ∨ (50 ≤ (60001 : Half).toNat ∧ (60001 : Half).toNat ≤ 60000)) ∧
    (∀ client window, (onLinked.port 0).state ≠ .binding client window) ∧
    onLinked.Executes 0 (tx .none) 2 (.bind 1 0) ∧ calm.HoldsNothing 0 ∧
    -- ATNn asserted by a notice, and not by an empty queue and list
    noticed.atnAsserted 0 = true ∧ serving.atnAsserted 0 = false :=
  ⟨fun _ _ => ⟨rfl, .inr rfl, rfl⟩, rfl, rfl, rfl, by decide, by decide, rfl, by decide, by decide,
   fun a b => (nofun : PortState.linked ≠ .binding a b), ⟨rfl, .inl rfl, rfl⟩, calm_holdsNothing 0,
   by decide +kernel⟩

theorem witness_DetachTearsDownAndReports : serving.Serves 0 (tx .none) 5 .detach :=
  serving_serves 5 .detach

/-- Port 0 of `serving` with `n` records unread; 16 is the most of R93. -/
def indebted (n : Nat) : State := serving.setCq 0 (List.replicate n (record 0 0))

theorem witness_ConvertCheckedAndAdmitted :
    (∀ c, serving.Serves 0 (tx .none) 9 c) ∧ numbered 12 12 = none ∧ gateOf 2 = none ∧
    numbered 4 4 = none ∧ numbered 12 2 = some 2 ∧ gateOf 0 = some .timebase ∧ numbered 4 3 = some 3 ∧
    -- UNUSABLE
    (∀ c, onLinked.usable c = true) ∧
    ((serving.setConfig ChannelTable.reset).Serves 0 (tx .none) 9 (.convert 2 0 3) ∧
      (serving.setConfig ChannelTable.reset).usable 2 = false) ∧
    -- TAG_IN_USE
    ((converting .external none (.settle 1200)).Serves 0 (tx .none) 9 (.convert 2 0 3) ∧
      (converting .external none (.settle 1200)).usable 2 = true ∧
      (converting .external none (.settle 1200)).tagInUse 0 9 = true) ∧
    -- NO_CREDIT
    ((indebted 16).Serves 0 (tx .none) 9 (.convert 2 0 3) ∧ (indebted 16).usable 2 = true ∧
      (indebted 16).tagInUse 0 9 = false ∧ (indebted 16).freeCredits 0 = 0) ∧
    -- DUPLICATE
    (let s := serving.setEntries [entry 2 .timebase .pending [waiter 0 4]]
     s.Serves 0 (tx .none) 9 (.convert 2 0 3) ∧ s.usable 2 = true ∧ s.tagInUse 0 9 = false ∧
      s.freeCredits 0 ≠ 0 ∧ s.directWaiterInPending 0 2 .timebase = true) ∧
    -- QUEUE_FULL: 24 entries, the one with the key IN_FLIGHT
    (let s := serving.setEntries
      ((fullQueue.filter fun e => decide (¬(e.channel = 2 ∧ e.gate = .timebase))) ++
        [entry 2 .timebase .inFlight [waiter 1 0]])
     s.Serves 0 (tx .none) 9 (.convert 2 0 3) ∧ s.usable 2 = true ∧ s.tagInUse 0 9 = false ∧
      s.freeCredits 0 ≠ 0 ∧ s.directWaiterInPending 0 2 .timebase = false ∧
      s.pendingWithKey 2 .timebase = none ∧ 24 ≤ s.entries.length) ∧
    -- ACCEPTED, joining an entry of a full queue, and creating one with one credit left
    (let s := serving.setEntries fullQueue
     s.Serves 0 (tx .none) 9 (.convert 2 0 3) ∧ s.usable 2 = true ∧ s.tagInUse 0 9 = false ∧
      s.freeCredits 0 ≠ 0 ∧ s.directWaiterInPending 0 2 .timebase = false ∧
      s.pendingWithKey 2 .timebase ≠ none) ∧
    ((indebted 15).Serves 0 (tx .none) 9 (.convert 2 0 3) ∧ (indebted 15).usable 2 = true ∧
      (indebted 15).tagInUse 0 9 = false ∧ (indebted 15).freeCredits 0 ≠ 0 ∧
      (indebted 15).directWaiterInPending 0 2 .timebase = false ∧
      (indebted 15).pendingWithKey 2 .timebase = none ∧ (indebted 15).entries.length < 24) :=
  ⟨serving_serves 9, by decide +kernel, by decide +kernel, by decide +kernel, by decide +kernel,
   by decide +kernel, by decide +kernel, by decide +kernel,
   ⟨⟨⟨rfl, .inl rfl, rfl⟩, rfl⟩, by decide +kernel⟩, ⟨⟨⟨rfl, .inl rfl, rfl⟩, rfl⟩, by decide +kernel⟩,
   ⟨⟨⟨rfl, .inl rfl, rfl⟩, rfl⟩, by decide +kernel⟩, ⟨⟨⟨rfl, .inl rfl, rfl⟩, rfl⟩, by decide +kernel⟩,
   ⟨⟨⟨rfl, .inl rfl, rfl⟩, rfl⟩, by decide +kernel⟩, ⟨⟨⟨rfl, .inl rfl, rfl⟩, rfl⟩, by decide +kernel⟩,
   ⟨⟨⟨rfl, .inl rfl, rfl⟩, rfl⟩, by decide +kernel⟩⟩

/-- The queue of a converting engine is within the bounds of R47. -/
theorem converting_queueSound (g : GateSource) : (converting g none (.settle 1200)).QueueSound where
  capacity := by cases g <;> decide +kernel
  waited := by cases g <;> decide +kernel
  keys := by cases g <;> decide +kernel
  oneInFlight := by cases g <;> decide +kernel
  inFlight := by cases g <;> decide +kernel
  converting := by
    intro c h e he _
    cases Option.some.inj h
    cases List.mem_singleton.mp he
    exact ⟨rfl, rfl⟩

theorem witness_AdmissionJoinsOrCreates :
    (serving.setEntries fullQueue).pendingWithKey 11 .external =
      some (entry 11 .external .pending [waiter 1 0]) ∧
    (converting .timebase none (.settle 1200)).pendingWithKey 2 .timebase = none ∧
    (converting .timebase none (.settle 1200)).QueueSound :=
  ⟨by decide +kernel, by decide +kernel, converting_queueSound _⟩

theorem witness_DispatchableUnlessHeldBack :
    (entry 2 .timebase .inFlight []).state = .inFlight ∧
    (entry 2 .timebase .pending [waiter 0 9]).state = .pending ∧
    serving.dispatchable (entry 2 .timebase .pending [waiter 0 9]) = true ∧
    (serving.setGroup 0 { lease := .held 1 .exclusive 5000, waiting := [] }).dispatchable
      (entry 2 .timebase .pending [waiter 0 9]) = false := by decide +kernel

def waiting : State := serving.setEntries [entry 2 .timebase .pending [waiter 0 9]]

theorem witness_ArbiterChoosesAndDispatches :
    (converting .timebase none (.settle 1200)).engine.conversion ≠ none ∧
    (∀ e ∈ (converting .timebase none (.settle 1200)).entries,
      (converting .timebase none (.settle 1200)).dispatchable e = false) ∧
    waiting.engine.conversion = none ∧
    waiting.chosenEntry = some (entry 2 .timebase .pending [waiter 0 9]) ∧
    (waiting.health .a).state ≠ .faulted ∧
    (waiting.setEngine faulted.engine).chosenEntry = some (entry 2 .timebase .pending [waiter 0 9]) ∧
    ((waiting.setEngine faulted.engine).health .a).state = .faulted := by decide +kernel

/-- A cached count taken 2,000 ms ago, the age limit of reference A. -/
def aged : RefCache := { count := 100, gateLength := 1000, taken := 0 - 1999000 }

theorem witness_DispatchStartsConversion :
    (entry 2 .timebase .pending []).gate = .timebase ∧
    (let s := serving.setHealth .a { state := .valid, cache := some aged, cacheExpiry := none,
                                     holdOff := none }
     (s.health .a).state = .valid ∧ (s.health .a).cache = some aged ∧
      aged.gateLength = (s.channel 2).settings.gateLength ∧ (s.refRecord .a).cacheAgeMs ≠ 0 ∧
      (s.hubTime - aged.taken).toNat ≤ (s.refRecord .a).cacheAgeMs.toNat * 1000 ∧
      ¬(s.hubTime + 1 - aged.taken).toNat ≤ (s.refRecord .a).cacheAgeMs.toNat * 1000) ∧
    (entry 2 .external .pending []).gate = .external ∧ (serving.health .a).cache = none := by
  decide +kernel

theorem witness_CancelRemovesWaiter :
    (∀ c, serving.Serves 0 (tx .none) 5 c) ∧ (9 : Half) ≠ 0 ∧ serving.entries = [] ∧
    -- a PENDING entry, none IN_FLIGHT
    waiting.Serves 0 (tx .none) 5 (.cancel 9) ∧
    (waiting.entries.find? fun e => e.waiters.any fun w =>
      decide (w.port = 0) && decide (w.origin = .direct 9)) =
      some (entry 2 .timebase .pending [waiter 0 9]) ∧
    (∀ f ∈ waiting.entries, f.state = .pending) ∧
    -- an IN_FLIGHT entry that keeps a waiter, and one that does not
    (let s := (converting .timebase none (.settle 1200)).setEntries
      [entry 2 .timebase .inFlight [waiter 0 9, waiter 1 9]]
     s.Serves 0 (tx .none) 5 (.cancel 9) ∧ ∀ f ∈ s.entries, f.waiters.filter (fun w =>
      !(decide (w.port = 0) && decide (w.origin = .direct 9))) ≠ []) ∧
    (let s := converting .timebase none (.settle 1200)
     s.Serves 0 (tx .none) 5 (.cancel 9) ∧ ∀ f ∈ s.entries, f.state = .inFlight ∧
      f.waiters.filter (fun w => !(decide (w.port = 0) && decide (w.origin = .direct 9))) = []) :=
  ⟨serving_serves 5, by decide, rfl, ⟨⟨rfl, .inl rfl, rfl⟩, rfl⟩, by decide +kernel, by decide +kernel,
   ⟨⟨⟨rfl, .inl rfl, rfl⟩, rfl⟩, by decide +kernel⟩, ⟨⟨⟨rfl, .inl rfl, rfl⟩, rfl⟩, by decide +kernel⟩⟩

def scheduledOn (i : ScheduleId) (x : Schedule) : State := serving.setSchedule i (some x)

theorem witness_SchedAddTakesLowestFreePlace :
    (∀ c, serving.Serves 0 (tx .none) 5 c) ∧ numbered 12 12 = none ∧ gateOf 2 = none ∧
    numbered 4 4 = none ∧ ¬10 ≤ (9 : Word).toNat ∧ ¬(600001 : Word).toNat ≤ 600000 ∧
    numbered 12 11 = some 11 ∧ gateOf 1 = some .external ∧ numbered 4 3 = some 3 ∧
    10 ≤ (10 : Word).toNat ∧ (600000 : Word).toNat ≤ 600000 ∧
    ((serving.setConfig ChannelTable.reset).Serves 0 (tx .none) 5 (.schedAdd 11 1 3 10) ∧
      (serving.setConfig ChannelTable.reset).usable 11 = false) ∧
    (let s := serving.setSchedules (Table.fill 8 (some (schedule 1 .paused)))
     s.Serves 0 (tx .none) 5 (.schedAdd 11 1 3 10) ∧ s.usable 11 = true ∧ ∀ i, s.schedule i ≠ none) ∧
    (let s := serving.setSchedules ((Table.fill 8 (some (schedule 1 .paused))).write 7 none)
     s.Serves 0 (tx .none) 5 (.schedAdd 11 1 3 600000) ∧ s.usable 11 = true ∧ s.schedule 7 = none ∧
      ∀ j, j < 7 → s.schedule j ≠ none) :=
  ⟨serving_serves 5, by decide, by decide, by decide, by decide, by decide, by decide, by decide,
   by decide, by decide, by decide, ⟨⟨⟨rfl, .inl rfl, rfl⟩, rfl⟩, by decide +kernel⟩,
   ⟨⟨⟨rfl, .inl rfl, rfl⟩, rfl⟩, by decide +kernel⟩, ⟨⟨⟨rfl, .inl rfl, rfl⟩, rfl⟩, by decide +kernel⟩⟩

theorem witness_SchedDeletePauseResume :
    (∀ c, serving.Serves 0 (tx .none) 5 c) ∧ numbered 8 8 = none ∧ numbered 8 7 = some 7 ∧
    serving.schedule 7 = none ∧
    (∀ c, (scheduledOn 7 (schedule 1 .paused)).Serves 0 (tx .none) 5 c) ∧
    (scheduledOn 7 (schedule 1 .paused)).schedule 7 = some (schedule 1 .paused) ∧
    (schedule 1 .paused).owner ≠ 0 ∧
    (∀ c, (scheduledOn 7 (schedule 0 .paused)).Serves 0 (tx .none) 5 c) ∧
    (scheduledOn 7 (schedule 0 .paused)).schedule 7 = some (schedule 0 .paused) ∧
    (schedule 0 .paused).owner = 0 ∧
    (∀ c, (scheduledOn 7 (schedule 0 (.active 9))).Serves 0 (tx .none) 5 c) ∧
    (scheduledOn 7 (schedule 0 (.active 9))).schedule 7 = some (schedule 0 (.active 9)) ∧
    -- no waiter of schedule 7; its waiter the last of the conversion; not the last; in a PENDING entry
    (let waits (e : Entry) : Bool := e.waiters.any fun w => decide (w.origin = .schedule 7)
     let own (w : Waiter) : Prop := w.origin = .schedule 7
     let last := entry 2 .timebase .inFlight [scheduled 0 7]
     let kept := entry 2 .timebase .inFlight [waiter 1 9, scheduled 0 7]
     let pending := entry 2 .timebase .pending [scheduled 0 7]
     (∀ e ∈ waiting.entries, waits e = false) ∧
     (serving.setEntries [last]).entries.find? waits = some last ∧
     (last.state = .inFlight ∧ ∀ w ∈ last.waiters, own w) ∧
     (serving.setEntries [kept]).entries.find? waits = some kept ∧ ¬own (waiter 1 9) ∧
     (serving.setEntries [pending]).entries.find? waits = some pending ∧ pending.state ≠ .inFlight) :=
  ⟨serving_serves 5, rfl, rfl, rfl, fun _ => ⟨⟨rfl, .inl rfl, rfl⟩, rfl⟩, rfl, by decide,
   fun _ => ⟨⟨rfl, .inl rfl, rfl⟩, rfl⟩, rfl, rfl, fun _ => ⟨⟨rfl, .inl rfl, rfl⟩, rfl⟩, rfl,
   by decide +kernel⟩

def due : Schedule := schedule 0 (.active 1000)

theorem witness_ScheduleDueInjectsOrMisses :
    (scheduledOn 3 due).schedule 3 = some due ∧ due.state = .active 1000 ∧
    reached calm.hubTime 1000 = true ∧ reached calm.hubTime 1001 = false ∧
    -- WAITING
    ((scheduledOn 3 due).setEntries [entry 2 .timebase .inFlight [scheduled 0 3]]).entries.any
      (fun e => e.waiters.any fun w => decide (w.origin = .schedule 3)) = true ∧
    -- UNUSABLE
    ((scheduledOn 3 due).setConfig ChannelTable.reset).usable 2 = false ∧
    -- NO_CREDIT
    ((indebted 16).setSchedule 3 (some due)).usable 2 = true ∧
    ((indebted 16).setSchedule 3 (some due)).freeCredits 0 = 0 ∧
    -- QUEUE_FULL
    (let s := (scheduledOn 3 due).setEntries
      ((fullQueue.filter fun e => decide (¬(e.channel = 2 ∧ e.gate = .timebase))) ++
        [entry 2 .timebase .inFlight [waiter 1 0]])
     s.usable 2 = true ∧ s.freeCredits 0 ≠ 0 ∧ s.pendingWithKey 2 .timebase = none ∧
      24 ≤ s.entries.length) ∧
    -- the request is made: a new entry, and a join in a full queue
    (scheduledOn 3 due).usable 2 = true ∧ (scheduledOn 3 due).freeCredits 0 ≠ 0 ∧
    (scheduledOn 3 due).entries.length < 24 ∧
    ((scheduledOn 3 due).setEntries fullQueue).pendingWithKey 2 .timebase ≠ none ∧
    -- no due time
    (scheduledOn 3 (schedule 0 .paused)).schedule 3 = some (schedule 0 .paused) ∧
    serving.schedule 3 = none := by decide +kernel

theorem witness_FetchRemovesHead : serving.Serves 0 (tx .none) 5 .fetch ∧ serving.cq 0 = [] ∧
    (indebted 16).Serves 0 (tx .none) 5 .fetch ∧
    (indebted 16).cq 0 = record 0 0 :: List.replicate 15 (record 0 0) :=
  ⟨serving_serves 5 _, rfl, ⟨⟨rfl, .inl rfl, rfl⟩, rfl⟩, by decide +kernel⟩

theorem witness_WatchCommandsActOnSlotAndNotice :
    (∀ c, noticed.Serves 0 (tx .none) 5 c) ∧ numbered 8 8 = none ∧ numbered 12 12 = none ∧
    numbered 4 4 = none ∧ notifyOf 16 = none ∧ ¬(2 : Word).toNat ≤ (1 : Word).toNat ∧
    ¬2 * (32769 : Word).toNat ≤ (163840 : Word).toNat - (98304 : Word).toNat ∧
    numbered 8 7 = some 7 ∧ numbered 12 11 = some 11 ∧ numbered 4 3 = some 3 ∧
    notifyOf 15 = some { below := true, inside := true, above := true, fault := true } ∧
    2 * (32768 : Word).toNat ≤ (163840 : Word).toNat - (98304 : Word).toNat ∧
    (noticed.portWatch 0).slots.read 7 = none ∧ (noticed.portWatch 0).slots.read 2 ≠ none ∧
    sourceOf 11 = none ∧ sourceOf 10 = some (.group 2) ∧ sourceOf 2 = some (.slot 2) ∧
    (∀ n ∈ (noticed.portWatch 0).notices, n.source ≠ .group 2) ∧
    (noticed.portWatch 0).notices.find? (fun n => decide (n.source = .slot 2)) = some (notice 2 1) ∧
    (notice 2 1).generation = 1 ∧ (notice 2 1).generation ≠ 0 :=
  ⟨fun _ => ⟨⟨rfl, .inl rfl, rfl⟩, rfl⟩, by decide +kernel⟩

/-- Each clause of the zone table at the value where it begins. -/
theorem witness_ZonesFollowTheTable :
    (watch.zone = .unknown ∧ (98303 : Word).toNat < watch.low.toNat ∧
      watch.low.toNat ≤ (163841 : Word).toNat ∧ watch.high.toNat < (163841 : Word).toNat ∧
      watch.low.toNat ≤ (98304 : Word).toNat ∧ (98304 : Word).toNat ≤ watch.high.toNat) ∧
    ({ watch with zone := .below }.zone = .below ∧
      watch.low.toNat + watch.hyst.toNat ≤ (114688 : Word).toNat ∧
      (114687 : Word).toNat < watch.low.toNat + watch.hyst.toNat) ∧
    ({ watch with zone := .above }.zone = .above ∧
      (147456 : Word).toNat ≤ watch.high.toNat - watch.hyst.toNat ∧
      watch.high.toNat - watch.hyst.toNat < (147457 : Word).toNat) := by decide +kernel

def okay (q : Word) : Outcome :=
  { status := .ok, ratio := some q, ref := some (counted 100 1000), sens := some (counted 40 1000),
    reference := .a, fromCache := false, gate := .timebase, revision := 1, completedAt := 1000 }

theorem witness_PublicationEvaluatesWatches :
    (noticed.portWatch 0).slots.read 7 = none ∧ (noticed.portWatch 0).slots.read 2 = some watch ∧
    watch.channel ≠ 5 ∧ watch.channel = 4 ∧ (okay 98303).status = .ok ∧
    -- the zone changes to one of the notify set, under a notice and without one
    watch.nextZone (okay 98303).judged = .below ∧ watch.zone ≠ .below ∧
    watch.notify.notified .below = some .below ∧
    ((noticed.portWatch 0).notices.filter fun n => decide (n.source = .slot 2)) ≠ [] ∧
    ((serving.setPortWatch 0 { noticed.portWatch 0 with notices := [] }).portWatch 0).notices = [] ∧
    -- the zone changes to one outside the notify set
    watch.nextZone (okay 98304).judged = .inside ∧ watch.notify.notified .inside = none ∧
    -- the zone stays
    { watch with zone := .below }.nextZone (okay 0).judged = .below := by decide +kernel

/-- A notice list is in the order of R113 and carries its generations. -/
theorem noticed_sound (p : PortId) : (noticed.portWatch p).Sound where
  sources := by revert p; decide +kernel
  ordered := by revert p; decide +kernel
  generations := by revert p; decide +kernel
  changes := by revert p; decide +kernel

theorem witness_RaisingCreatesOrUpdates :
    (∀ n ∈ (noticed.portWatch 0).notices, n.source ≠ (NoticeContent.group 2 true false).source) ∧
    (noticed.portWatch 0).Sound ∧
    (∃ n ∈ (noticed.portWatch 0).notices, n.source = (NoticeContent.watch 2 .below none 0).source) :=
  ⟨by decide +kernel, noticed_sound 0, ⟨notice 2 1, by decide +kernel, rfl⟩⟩

theorem witness_LeaseGrantedOrQueued :
    (∀ c, serving.Serves 0 (tx .none) 9 c) ∧ numbered 3 3 = none ∧ kindOf 2 = none ∧
    ¬10 ≤ (9 : Word).toNat ∧ ¬(600001 : Word).toNat ≤ 600000 ∧ numbered 3 2 = some 2 ∧
    kindOf 1 = some .exclusive ∧ 10 ≤ (10 : Word).toNat ∧ (600000 : Word).toNat ≤ 600000 ∧
    ((∀ c, (contended 0 [] serving).Serves 0 (tx .none) 9 c) ∧
      (contended 0 [] serving).holder 2 = some 0) ∧
    ((∀ c, (contended 1 [leaseRequest 0 8] serving).Serves 0 (tx .none) 9 c) ∧
      (contended 1 [leaseRequest 0 8] serving).holder 2 ≠ some 0 ∧
      ∃ q ∈ ((contended 1 [leaseRequest 0 8] serving).group 2).waiting, q.port = 0) ∧
    ((∀ c, waiting.Serves 0 (tx .none) 9 c) ∧ waiting.holder 2 ≠ some 0 ∧
      waiting.tagInUse 0 9 = true) ∧
    ((¬∃ q ∈ (serving.group 2).waiting, q.port = 0) ∧ serving.tagInUse 0 9 = false ∧
      (serving.group 2).lease = .free) ∧
    ((∀ c, (contended 1 [leaseRequest 2 8] serving).Serves 0 (tx .none) 9 c) ∧
      (¬∃ q ∈ ((contended 1 [leaseRequest 2 8] serving).group 2).waiting, q.port = 0) ∧
      (contended 1 [leaseRequest 2 8] serving).tagInUse 0 9 = false ∧
      ((contended 1 [leaseRequest 2 8] serving).group 2).lease = .held 1 .exclusive 5000 ∧
      (contended 1 [leaseRequest 2 8] serving).freeCredits 0 ≠ 0) ∧
    ((∀ c, (contended 1 [] (indebted 16)).Serves 0 (tx .none) 9 c) ∧
      (contended 1 [] (indebted 16)).tagInUse 0 9 = false ∧
      (contended 1 [] (indebted 16)).freeCredits 0 = 0) :=
  ⟨serving_serves 9, by decide, by decide, by decide, by decide, by decide, by decide, by decide,
   by decide, ⟨fun _ => ⟨⟨rfl, .inl rfl, rfl⟩, rfl⟩, by decide +kernel⟩,
   ⟨fun _ => ⟨⟨rfl, .inl rfl, rfl⟩, rfl⟩, by decide +kernel, leaseRequest 0 8, by decide +kernel, rfl⟩,
   ⟨fun _ => ⟨⟨rfl, .inl rfl, rfl⟩, rfl⟩, by decide +kernel⟩,
   ⟨(nofun : ¬∃ q ∈ ([] : List LeaseRequest), q.port = 0), by decide +kernel⟩,
   ⟨fun _ => ⟨⟨rfl, .inl rfl, rfl⟩, rfl⟩, by decide +kernel⟩,
   ⟨fun _ => ⟨⟨rfl, .inl rfl, rfl⟩, rfl⟩, by decide +kernel⟩⟩

theorem witness_WithdrawAndRenew :
    (∀ c, serving.Serves 0 (tx .none) 9 c) ∧ (8 : Half) ≠ 0 ∧ (∀ g, (serving.group g).waiting = []) ∧
    ((∀ c, (contended 1 [leaseRequest 0 8] serving).Serves 0 (tx .none) 9 c) ∧
      ((contended 1 [leaseRequest 0 8] serving).group 2).waiting = [leaseRequest 0 8] ∧
      (leaseRequest 0 8).port = 0 ∧ (leaseRequest 0 8).tag = 8 ∧
      ∀ h : GroupId, h < 2 → ((contended 1 [leaseRequest 0 8] serving).group h).waiting = []) ∧
    numbered 3 3 = none ∧ kindOf 2 = none ∧ ¬10 ≤ (9 : Word).toNat ∧ ¬(600001 : Word).toNat ≤ 600000 ∧
    numbered 3 2 = some 2 ∧ kindOf 0 = some .configure ∧ 10 ≤ (10 : Word).toNat ∧
    (600000 : Word).toNat ≤ 600000 ∧ serving.holder 2 ≠ some 0 ∧
    ((∀ c, (contended 0 [leaseRequest 1 8] serving).Serves 0 (tx .none) 9 c) ∧
      (contended 0 [leaseRequest 1 8] serving).holder 2 = some 0 ∧
      ((contended 0 [leaseRequest 1 8] serving).group 2).waiting ≠ []) ∧
    ((∀ c, (contended 0 [] serving).Serves 0 (tx .none) 9 c) ∧
      (contended 0 [] serving).holder 2 = some 0 ∧
      ((contended 0 [] serving).group 2).waiting = []) :=
  ⟨serving_serves 9, by decide, by decide +kernel,
   ⟨fun _ => ⟨⟨rfl, .inl rfl, rfl⟩, rfl⟩, by decide +kernel⟩, by decide, by decide, by decide, by decide,
   by decide, by decide, by decide, by decide, by decide +kernel,
   ⟨fun _ => ⟨⟨rfl, .inl rfl, rfl⟩, rfl⟩, by decide +kernel⟩,
   ⟨fun _ => ⟨⟨rfl, .inl rfl, rfl⟩, rfl⟩, by decide +kernel⟩⟩

theorem witness_LeaseEndsByReleaseOrExpiry :
    (∀ c, serving.Serves 0 (tx .none) 5 c) ∧ numbered 3 3 = none ∧ numbered 3 2 = some 2 ∧
    serving.holder 2 ≠ some 0 ∧
    ((∀ c, (contended 0 [leaseRequest 1 8] serving).Serves 0 (tx .none) 5 c) ∧
      (contended 0 [leaseRequest 1 8] serving).holder 2 = some 0) ∧
    ((contended 0 [] serving).group 2).lease = .held 0 .exclusive 5000 ∧ reached 5000 5000 = true ∧
    reached 4999 5000 = false ∧ (serving.group 2).lease = .free :=
  ⟨serving_serves 5, rfl, rfl, by decide +kernel,
   ⟨fun _ => ⟨⟨rfl, .inl rfl, rfl⟩, rfl⟩, by decide +kernel⟩, by decide +kernel⟩

theorem witness_LeasePassesToHeadOfWaitList :
    (holdingAll 0 serving).holdsAll 0 = true ∧ (holding 0 1 serving).holdsAll 0 = false ∧
    ((contended 0 [] serving).group 2).waiting = [] ∧
    ((contended 0 [leaseRequest 1 8] serving).group 2).waiting = [leaseRequest 1 8] ∧
    ((contended 0 [leaseRequest 1 8, leaseRequest 2 8] serving).group 2).waiting =
      [leaseRequest 1 8, leaseRequest 2 8] := by decide +kernel

theorem witness_StageCommandsMergeGivenFields :
    (∀ c, serving.Serves 0 (tx .none) 5 c) ∧ numbered 12 12 = none ∧
    channelForm 0 0 0 0 0 0 0 = none ∧ channelForm 64 0 0 0 0 0 0 = none ∧
    channelForm 4 0 0 99 0 0 0 = none ∧ numbered 12 11 = some 11 ∧
    channelForm 63 1 1 100 5000 1000000 16777215 =
      some { enabled := some true, reference := some .b, gateLength := some 100, settle := some 5000,
             openLimit := some 1000000, shortLimit := some 16777215 } ∧
    serving.holder (groupOf 11) ≠ some 0 ∧
    ((∀ c, (holdingAll 0 serving).Serves 0 (tx .none) 5 c) ∧
      (holdingAll 0 serving).holder (groupOf 11) = some 0 ∧
      ∀ g, (holdingAll 0 serving).holder g = some 0) ∧
    refOf 2 = none ∧ refOf 1 = some .b ∧ referenceForm 8 0 0 0 9 = none ∧
    referenceForm 15 1 5000 60000 10 =
      some { enabled := some true, settle := some 5000, cacheAgeMs := some 60000, holdOffMs := some 10 } ∧
    ((∀ c, (holding 0 1 serving).Serves 0 (tx .none) 5 c) ∧ (holding 0 1 serving).holder 0 ≠ some 0) ∧
    hubForm 1 9 0 = none ∧ hubForm 2 0 1001 = none ∧ hubForm 3 0 1000 = some (some 0, some 1000) :=
  ⟨serving_serves 5, by decide, by decide, by decide, by decide, by decide, by decide,
   by decide +kernel, ⟨fun _ => ⟨⟨rfl, .inl rfl, rfl⟩, rfl⟩, by decide +kernel⟩, by decide, by decide,
   by decide, by decide, ⟨fun _ => ⟨⟨rfl, .inl rfl, rfl⟩, rfl⟩, by decide +kernel⟩, by decide⟩

/-- Port 0 holds every group and has AGE_STEP staged. -/
def stagedHub : State :=
  (holdingAll 0 serving).setHubStaging { HubStaging.empty with ageStepMs := some 0 }

theorem witness_UnstageDropsStagedEdits :
    (∀ c, serving.Serves 0 (tx .none) 5 c) ∧ (12 : Byte) ≠ 0xFF ∧ 12 ≤ (12 : Byte).toNat ∧
    (254 : Byte) ≠ 0xFF ∧ (5 : Byte).toNat = (5 : ChannelId).val ∧
    serving.holder (groupOf 5) ≠ some 0 ∧
    ((∀ c, staged.Serves 0 (tx .none) 5 c) ∧ staged.holder (groupOf 5) = some 0 ∧
      staged.leases.staging.read 6 = none ∧ staged.leases.staging.read 5 ≠ none) ∧
    ((∀ c, (holdingAll 0 serving).Serves 0 (tx .none) 5 c) ∧
      (∀ g, (holdingAll 0 serving).holder g = some 0) ∧
      (holdingAll 0 serving).leases.hubStaging.nonempty = false) ∧
    ((∀ c, stagedHub.Serves 0 (tx .none) 5 c) ∧ (∀ g, stagedHub.holder g = some 0) ∧
      stagedHub.leases.hubStaging.nonempty = true) :=
  ⟨serving_serves 5, by decide, by decide, by decide, by decide, by decide +kernel,
   ⟨fun _ => ⟨⟨rfl, .inl rfl, rfl⟩, rfl⟩, by decide +kernel⟩,
   ⟨fun _ => ⟨⟨rfl, .inl rfl, rfl⟩, rfl⟩, by decide +kernel⟩,
   ⟨fun _ => ⟨⟨rfl, .inl rfl, rfl⟩, rfl⟩, by decide +kernel⟩⟩

/-- `staged` with a short limit that is not above the committed open limit. -/
def stagedBadly : State :=
  staged.setStaging ((Table.fill 12 none).write 5 (some { StagedChannel.blank with shortLimit := some 16 }))

/-- The engine converts channel 2 while port 0 holds every group, with the given staging buffers. -/
def convertingWith (channels : Table 12 (Option StagedChannel)) (hub : HubStaging) : State :=
  ((holdingAll 0 (converting .timebase none (.settle 1200))).setStaging channels).setHubStaging hub

theorem witness_CommitCheckedInOrder :
    (∀ c, serving.Serves 0 (tx .none) 5 c) ∧ (3 : Byte) ≠ 0xFF ∧ 3 ≤ (3 : Byte).toNat ∧
    (2 : Byte).toNat = (2 : GroupId).val ∧ serving.holder 1 ≠ some 0 ∧
    ((∀ c, (holding 0 1 serving).Serves 0 (tx .none) 5 c) ∧ (holding 0 1 serving).holder 1 = some 0 ∧
      (holding 0 1 serving).somethingStaged (some 1) = false) ∧
    ((∀ c, stagedBadly.Serves 0 (tx .none) 5 c) ∧ stagedBadly.holder 1 = some 0 ∧
      stagedBadly.somethingStaged (some 1) = true ∧ (stagedBadly.tableAfter (some 1)).valid = false) ∧
    ((∀ c, staged.Serves 0 (tx .none) 5 c) ∧ staged.holder 1 = some 0 ∧
      staged.somethingStaged (some 1) = true ∧ (staged.tableAfter (some 1)).valid = true) ∧
    ((∀ c, stagedHub.Serves 0 (tx .none) 5 c) ∧ (∀ g, stagedHub.holder g = some 0) ∧
      stagedHub.somethingStaged none = true ∧ (stagedHub.tableAfter none).valid = true) ∧
    -- a commit that changes the record of the channel converted, of its reference, and neither
    ((convertingWith (staged.leases.staging.write 2
        (some { StagedChannel.blank with gateLength := some 5000 })) HubStaging.empty).commitAborts
        (some 0) = true ∧
      (convertingWith staged.leases.staging
        { HubStaging.empty with refs :=
            ⟨some { enabled := none, settle := some 400, cacheAgeMs := none, holdOffMs := none }, none⟩
          }).commitAborts none = true ∧
      (convertingWith staged.leases.staging HubStaging.empty).commitAborts none = false) :=
  ⟨serving_serves 5, by decide, by decide, by decide, by decide +kernel,
   ⟨fun _ => ⟨⟨rfl, .inl rfl, rfl⟩, rfl⟩, by decide +kernel⟩,
   ⟨fun _ => ⟨⟨rfl, .inl rfl, rfl⟩, rfl⟩, by decide +kernel⟩,
   ⟨fun _ => ⟨⟨rfl, .inl rfl, rfl⟩, rfl⟩, by decide +kernel⟩,
   ⟨fun _ => ⟨⟨rfl, .inl rfl, rfl⟩, rfl⟩, by decide +kernel⟩, by decide +kernel⟩

theorem witness_CommitAppliesStagedFields :
    groupOf 5 = 1 ∧ groupOf 3 ≠ 1 ∧
    staged.leases.staging.read 5 = some { StagedChannel.blank with gateLength := some 5000 } ∧
    staged.leases.staging.read 6 = none ∧
    (stagedHub.setHubStaging { HubStaging.empty with
      refs := ⟨some { StagedRef.blank with enabled := some false }, none⟩ }).leases.hubStaging.refs.read
        .a = some { StagedRef.blank with enabled := some false } ∧
    stagedHub.leases.hubStaging.refs.read .b = none := by decide +kernel

theorem witness_CommitAbortsAndDisables :
    (converting .timebase none (.settle 1200)).QueueSound ∧
    entry 2 .timebase .inFlight [waiter 0 9] ∈ (converting .timebase none (.settle 1200)).entries ∧
    (entry 2 .timebase .inFlight [waiter 0 9]).state = .inFlight :=
  ⟨converting_queueSound _, by decide +kernel, rfl⟩

theorem witness_PhaseDeadlinesEndPhases :
    (converting .timebase none (.settle 1000)).engine.conversion =
      some (conversion .timebase none (.settle 1000)) ∧
    (conversion .timebase none (.settle 1000)).phase = .settle 1000 ∧
    reached serving.hubTime 1000 = true ∧ (conversion .external none (.settle 1000)).gate = .external ∧
    (conversion .timebase none (.count 0 1000 1000)).phase = .count 0 1000 1000 ∧
    (conversion .external none (.arm 1000)).phase = .arm 1000 ∧
    (conversion .external none (.count 0 2000 1000)).phase = .count 0 2000 1000 ∧
    reached serving.hubTime 1001 = false ∧ serving.engine.conversion = none := by decide +kernel

theorem witness_EdgesCountOpenAndClose :
    (counting .timebase none 16777214 0 2000 2000).engine.conversion =
      some (conversion .timebase none (.count 0 2000 2000)) ∧
    (counting .timebase none 16777214 0 2000 2000).engine.edgeCounter ≠ 16777215 ∧
    (counting .timebase none 16777215 0 2000 2000).engine.edgeCounter = 16777215 ∧
    (conversion .external none (.count 950 2000 2000)).gate = .external ∧
    50 ≤ (serving.hubTime - 950).toNat ∧ (serving.hubTime - 951).toNat < 50 ∧
    (conversion .external none (.arm 2000)).phase = .arm 2000 ∧
    -- no count phase: IDLE, and a settle phase of each kind
    serving.engine.conversion = none ∧
    (∀ c, (converting .timebase none (.settle 2000)).engine.conversion = some c →
      (∀ o st d, c.phase ≠ .count o st d) ∧ ∃ d, c.phase = .settle d) ∧
    (∀ c, (converting .external (some (counted 100 1000)) (.settle 2000)).engine.conversion = some c →
      (∀ o st d, c.phase ≠ .count o st d) ∧ ∃ d, c.phase = .settle d) := by
  refine ⟨by decide +kernel, by decide +kernel, rfl, rfl, by decide +kernel, by decide +kernel, rfl, rfl,
    ?_, ?_⟩
  all_goals
    intro c h
    cases Option.some.inj h
    exact ⟨nofun, 2000, rfl⟩

theorem witness_CountPhaseJudged :
    (conversion .external none (.settle 0)).refCount = none ∧ (counted 1 1000).count ≠ 0 ∧
    (conversion .external none (.settle 0)).gate = .external ∧
    (conversion .timebase none (.settle 0)).gate = .timebase ∧ PhaseEnd.stalled ≠ .closed ∧
    (counted 0 1000).count = 0 ∧
    (conversion .timebase (some (counted 1 1000)) (.settle 0)).refCount = some (counted 1 1000) ∧
    (converting .timebase none (.settle 0)).inFlightEntry =
      some (entry 2 .timebase .inFlight [waiter 0 9]) := by decide +kernel

/-- R15: each class at the value where it begins. -/
theorem witness_SensorCountClassified :
    limits.shortLimit.toNat ≤ (counted 40000 10000).count.toNat ∧
    ¬limits.shortLimit.toNat ≤ (counted 39999 10000).count.toNat ∧
    (counted 49 10000).count.toNat < limits.openLimit.toNat ∧
    ¬(counted 50 10000).count.toNat < limits.openLimit.toNat ∧
    4294967296 ≤ 1310720 * 50 * 65536 / (50 * 20) ∧ 1000 * 1000 * 65536 / (50 * 1000) < 4294967296 := by
  decide +kernel

theorem witness_EffectivePriorityAges :
    (∀ w ∈ (entry 2 .timebase .pending [waiter 0 9]).waiters, w.priority.val ≤ 1) ∧
    waiter 0 9 ∈ (entry 2 .timebase .pending [waiter 0 9]).waiters ∧
    (serving.setEntries fullQueue).entries[(23 : Fin 24).val]? =
      some (entry 11 .external .pending [waiter 1 0]) ∧
    (entry 11 .external .pending [waiter 1 0]).agingDeadline = some 2147483647 ∧
    reached 2147483647 2147483647 = true ∧ reached serving.hubTime 2147483647 = false ∧
    serving.entries[(0 : Fin 24).val]? = none := by decide +kernel

theorem witness_TickAndDeadlineExpiries :
    serving.inReset = false ∧ inHubReset.inReset = true ∧ (faulted.health .a).holdOff = some 1000 ∧
    (cached.health .a).cacheExpiry = some 1000 ∧ reached serving.hubTime 1000 = true ∧
    (onBinding.port 0).state = .binding 7 251000 ∧ reached 251000 251000 = true ∧
    reached onBinding.hubTime 251000 = false ∧
    (silent.port 0).state = .attached
      { client := 7, attention := true, silenceMs := 50, silenceDeadline := some 1000 } ∧
    reached silent.hubTime 1000 = true ∧ (serving.health .b).holdOff = none ∧
    (serving.health .b).cacheExpiry = none ∧ (serving.port 1).state = .linked := by decide +kernel

/-! ### One state with every kept property, and a step from it -/

/-- Port 0 is served while it has a waiter in flight, a schedule, a watch with its notice, every lease and
staged edits; the next command ends the settle phase. -/
def busy : State :=
  ((((converting .timebase none (.settle 1000)).setSelection (.reference .a)).setLeases
    stagedHub.leases).setPortWatch 0 (noticed.portWatch 0)).setSchedule 3 (some (schedule 0 .paused))
    |>.setPending [.settleEnd, .nop 0 3]

theorem busy_steps : ∃ t, step busy = .next t := ⟨_, rfl⟩

theorem busy_queueSound : busy.QueueSound where
  capacity := by decide +kernel
  waited := by decide +kernel
  keys := by decide +kernel
  oneInFlight := by decide +kernel
  inFlight := by decide +kernel
  converting := by
    intro c h e he _
    cases Option.some.inj h
    cases List.mem_singleton.mp he
    exact ⟨rfl, rfl⟩

theorem busy_holdsNothing (p : PortId) (h : p ≠ 0) : busy.HoldsNothing p where
  credits := by revert p; decide +kernel
  schedules := by
    intro i x hx
    have owned : ∀ i, (busy.schedule i).all (fun x => decide (x.owner = 0)) = true := by decide +kernel
    have key := owned i
    rw [hx] at key
    have own : x.owner = 0 := by simpa using key
    rw [own]
    exact Ne.symm h
  watches := by revert p; decide +kernel
  groups := by revert p; decide +kernel

theorem witness_StepKeepsConfigurationValid : busy.ConfigSound ∧ ∃ t, step busy = .next t :=
  ⟨(by decide +kernel : busy.config.valid = true), busy_steps⟩

theorem witness_StepKeepsUnattachedPortsEmpty :
    busy.ResetSound ∧ busy.AccountsSound ∧ ∃ t, step busy = .next t :=
  ⟨nofun, fun p h => busy_holdsNothing p (by
    rintro rfl
    exact absurd h (by decide +kernel)), busy_steps⟩

theorem witness_QueueBoundsHold : busy.QueueSound ∧ ∃ t, step busy = .next t :=
  ⟨busy_queueSound, busy_steps⟩

theorem witness_StepKeepsEngineAndArbiterInStep :
    busy.SelectionSound ∧ busy.ArbiterSound ∧ busy.CounterSound ∧ ∃ t, step busy = .next t :=
  ⟨(by decide +kernel : busy.selection = busy.engine.selected), nofun, nofun, busy_steps⟩

theorem witness_StepKeepsCreditsAndTags :
    busy.QueueSound ∧ busy.CreditSound ∧ busy.TagsSound ∧ ∃ t, step busy = .next t :=
  ⟨busy_queueSound, (by decide +kernel : ∀ p, busy.holdings p ≤ 16),
   (by decide +kernel : ∀ p, (busy.outstandingTags p).Nodup), busy_steps⟩

theorem witness_StepKeepsNoticeListsOrdered : busy.NoticesSound ∧ ∃ t, step busy = .next t :=
  ⟨fun p => { sources := by revert p; decide +kernel
              ordered := by revert p; decide +kernel
              generations := by revert p; decide +kernel
              changes := by revert p; decide +kernel }, busy_steps⟩

theorem witness_StepKeepsLeasesAndStaging :
    busy.WaitListsSound ∧ busy.StagingSound ∧ ∃ t, step busy = .next t :=
  ⟨fun g => { length := by revert g; decide +kernel
              distinct := by revert g; decide +kernel
              holder := by revert g; decide +kernel
              free := by revert g; decide +kernel },
   ⟨by decide +kernel, fun _ => ⟨0, by decide +kernel⟩⟩, busy_steps⟩

theorem witness_StepKeepsPortsSound :
    busy.PortsSound ∧ busy.BacklogSound ∧ busy.NoSecondFall ∧ ∃ t, step busy = .next t :=
  ⟨fun p =>
    have on : ∀ p, (busy.port p).state ≠ .offline := by decide +kernel
    { offline := fun h => absurd h (on p)
      idle := by revert p; decide +kernel
      notReady := by revert p; decide +kernel },
   fun p =>
    have clear : ∀ p, (busy.port p).backlog = false := by decide +kernel
    { single := by revert p; decide +kernel
      unheld := fun h => absurd h (by simp [clear p])
      carried := fun h => absurd h (by simp [clear p]) },
   fun _ h => absurd (Option.some.inj h) nofun, busy_steps⟩

end Sys2Proof.Tests
end

section
/-!
PROOF. R15's classification of a sensor count: what `classify` answers in each of its four classes, and
the statement SensorCountClassified assembled from them.
-/
namespace Sys2Proof.Machine

/-! ## The classes of R15, one lemma each -/

section Classify

variable {limits : ChannelSettings} {how : PhaseEnd} {ref sens : Measured}

/-- R15 step 1: an overflow, or a count at the short limit or above it. -/
theorem classify_of_short
    (short : how = .overflowed ∨ limits.shortLimit.toNat ≤ sens.count.toNat) :
    classify limits how ref sens = (.short, none) :=
  if_pos short

/-- R15 step 2, where step 1 does not apply: a stall, no edge, or a count below the open limit. -/
theorem classify_of_open
    (notShort : ¬(how = .overflowed ∨ limits.shortLimit.toNat ≤ sens.count.toNat))
    (isOpen : how = .stalled ∨ sens.count = 0 ∨ sens.count.toNat < limits.openLimit.toNat) :
    classify limits how ref sens = (.open_, none) :=
  (if_neg notShort).trans (if_pos isOpen)

/-- R15 steps 3 and 4: past SHORT and OPEN the ratio of R13 alone decides. -/
theorem classify_by_ratio
    (notShort : ¬(how = .overflowed ∨ limits.shortLimit.toNat ≤ sens.count.toNat))
    (notOpen : ¬(how = .stalled ∨ sens.count = 0 ∨ sens.count.toNat < limits.openLimit.toNat)) :
    classify limits how ref sens =
      if 4294967296 ≤ exactRatio ref sens then (.overrange, none)
      else (.ok, some (BitVec.ofNat 32 (exactRatio ref sens))) :=
  (if_neg notShort).trans (if_neg notOpen)

/-- R15 step 4: a ratio below 65,536 is carried without loss in 32 bits (R13). -/
theorem classify_ok_carries_ratio
    (notShort : ¬(how = .overflowed ∨ limits.shortLimit.toNat ≤ sens.count.toNat))
    (notOpen : ¬(how = .stalled ∨ sens.count = 0 ∨ sens.count.toNat < limits.openLimit.toNat))
    (fits : exactRatio ref sens < 4294967296) :
    ∃ ratio : Word, ratio.toNat = exactRatio ref sens ∧
      classify limits how ref sens = (.ok, some ratio) :=
  ⟨BitVec.ofNat 32 (exactRatio ref sens),
    (BitVec.toNat_ofNat _ 32).trans (Nat.mod_eq_of_lt fits),
    (classify_by_ratio notShort notOpen).trans (if_neg (Nat.not_le.mpr fits))⟩

end Classify

/-- Settles O49: the four classes of R15 in their order. The model asks for an edge count of 0 as a bit
vector, the statement as a number. -/
theorem sensorCountClassified : Obligations.SensorCountClassified := by
  intro limits how ref sens q short isOpen
  have openIff : isOpen ↔
      how = .stalled ∨ sens.count = 0 ∨ sens.count.toNat < limits.openLimit.toNat :=
    or_congr_right (or_congr_left (BitVec.toNat_inj (y := 0)))
  refine ⟨classify_of_short, ?isOpen, ?overrange, ?ok⟩
  case isOpen =>
    intro notShort opened
    exact classify_of_open notShort (openIff.mp opened)
  case overrange =>
    intro notShort notOpen _ tooLarge
    exact (classify_by_ratio notShort (mt openIff.mpr notOpen)).trans (if_pos tooLarge)
  case ok =>
    intro notShort notOpen _ fits
    exact classify_ok_carries_ratio notShort (mt openIff.mpr notOpen) fits

end Sys2Proof.Machine
end

section
/-!
PROOF. R26's cache test and what a dispatch starts with (R24, R27, R61): with a cached count the engine
enters SETTLE_SENS, without one SETTLE_REF. The statement DispatchStartsConversion is assembled from the
two sides.
-/
namespace Sys2Proof.Machine

/-! ## The cache test of R26 -/

/-- R26: the test that a cached count `k` must pass. -/
structure RefCache.Usable (h : RefHealth) (record : RefRecord) (gateLength : Half) (now : Time)
    (k : RefCache) : Prop where
  valid : h.state = .valid
  cached : h.cache = some k
  sameGate : k.gateLength = gateLength
  limited : record.cacheAgeMs ≠ 0
  young : (now - k.taken).toNat ≤ record.cacheAgeMs.toNat * 1000

section CacheTest

variable {h : RefHealth} {record : RefRecord} {gateLength : Half} {now : Time}

theorem usableCache_of_usable {k : RefCache} (usable : k.Usable h record gateLength now) :
    usableCache h record gateLength now =
      some { count := k.count, time := k.gateLength.setWidth 32 } := by
  obtain ⟨valid, cached, sameGate, limited, young⟩ := usable
  unfold usableCache
  rw [valid, cached]
  exact if_pos ⟨sameGate, limited, young⟩

/-- A count that the model takes from the cache has passed the test. -/
theorem exists_usable_of_usableCache {m : Measured}
    (taken : usableCache h record gateLength now = some m) :
    ∃ k : RefCache, k.Usable h record gateLength now := by
  unfold usableCache at taken
  split at taken
  next k valid cached =>
    split at taken
    next passes =>
      obtain ⟨sameGate, limited, young⟩ := passes
      exact ⟨k, valid, cached, sameGate, limited, young⟩
    next => cases taken
  next => cases taken

theorem usableCache_eq_none (unusable : ∀ k : RefCache, ¬k.Usable h record gateLength now) :
    usableCache h record gateLength now = none :=
  Option.eq_none_iff_forall_ne_some.mpr fun _ taken =>
    (exists_usable_of_usableCache taken).elim unusable

end CacheTest

/-! ## The cached count of a dispatch (R24) -/

section Dispatch

variable {s : State} {e : Entry}

theorem State.cachedCountFor_external (external : e.gate = .external) : s.cachedCountFor e = none := by
  unfold State.cachedCountFor
  rw [external]

theorem State.cachedCountFor_timebase (timebase : e.gate = .timebase) :
    s.cachedCountFor e =
      usableCache (s.health (s.channel e.channel).settings.reference)
        (s.refRecord (s.channel e.channel).settings.reference)
        (s.channel e.channel).settings.gateLength s.hubTime := by
  unfold State.cachedCountFor
  rw [timebase]

/-- R24: an EXTERNAL conversion takes no cached count, and neither does any conversion when the cache of
its reference fails the test. -/
theorem State.cachedCountFor_eq_none
    (without : e.gate = .external ∨
      ∀ k : RefCache, ¬k.Usable (s.health (s.channel e.channel).settings.reference)
        (s.refRecord (s.channel e.channel).settings.reference)
        (s.channel e.channel).settings.gateLength s.hubTime) :
    s.cachedCountFor e = none := by
  cases gate : e.gate with
  | external => exact State.cachedCountFor_external gate
  | timebase =>
    have unusable := without.resolve_left (by rw [gate]; decide)
    exact (State.cachedCountFor_timebase gate).trans (usableCache_eq_none unusable)

/-! ## The conversion that a dispatch starts (R24, R27, R61) -/

/-- R27: with a cached count the reference phases are skipped. -/
theorem State.startConversion_of_cached {m : Measured} (cached : s.cachedCountFor e = some m) :
    s.startConversion e =
      ((s.setEntries (s.entries.replace e { e with state := .inFlight })).setSelection
        (.sensor e.channel)).setConversion
        (some { channel := e.channel, gate := e.gate
                reference := (s.channel e.channel).settings.reference
                revision := (s.channel e.channel).revision
                fromCache := true, refCount := some m
                phase := .settle
                  (s.hubTime + (s.channel e.channel).settings.settle.setWidth 32) }) := by
  unfold State.startConversion
  rw [cached]
  rfl

/-- R24: without a cached count the conversion begins with the settle phase of its reference. -/
theorem State.startConversion_of_uncached (uncached : s.cachedCountFor e = none) :
    s.startConversion e =
      ((s.setEntries (s.entries.replace e { e with state := .inFlight })).setSelection
        (.reference (s.channel e.channel).settings.reference)).setConversion
        (some { channel := e.channel, gate := e.gate
                reference := (s.channel e.channel).settings.reference
                revision := (s.channel e.channel).revision
                fromCache := false, refCount := none
                phase := .settle (s.hubTime +
                  (s.refRecord (s.channel e.channel).settings.reference).settle.setWidth 32) }) := by
  unfold State.startConversion
  rw [uncached]
  rfl

end Dispatch

/-- Settles O26: a TIMEBASE dispatch with a usable count has that count as its cached one, every other
dispatch has none, and the cached count alone decides where the conversion starts. -/
theorem dispatchStartsConversion : Obligations.DispatchStartsConversion := by
  intro s e record ref limit started usable
  have test (k : RefCache) :
      usable k ↔ k.Usable (s.health ref) (s.refRecord ref) record.settings.gateLength s.hubTime :=
    ⟨fun ⟨valid, cached, sameGate, limited, young⟩ => ⟨valid, cached, sameGate, limited, young⟩,
      fun ⟨valid, cached, sameGate, limited, young⟩ => ⟨valid, cached, sameGate, limited, young⟩⟩
  refine ⟨?fromCache, ?fromReference⟩
  case fromCache =>
    intro k timebase isUsable
    have cached : s.cachedCountFor e =
        some { count := k.count, time := k.gateLength.setWidth 32 } :=
      (State.cachedCountFor_timebase timebase).trans (usableCache_of_usable ((test k).mp isUsable))
    exact State.startConversion_of_cached cached
  case fromReference =>
    intro without
    have uncached : s.cachedCountFor e = none :=
      State.cachedCountFor_eq_none (without.imp_right fun unusable k => mt (test k).mpr (unusable k))
    exact State.startConversion_of_uncached uncached

end Sys2Proof.Machine
end

section
/-!
PROOF. R47, the statement QueueBoundsHold. The bounds are put in terms of the keys of the entries; each
operation of the queue is shown to keep them there, then each change of the state, each command and event,
and the step.
-/
namespace Sys2Proof.Machine

/-! ## R47 by keys -/

/-- Channel and gate source, the key of R52. -/
def Entry.key (e : Entry) : ChannelId × GateSource := (e.channel, e.gate)

def Conversion.key (c : Conversion) : ChannelId × GateSource := (c.channel, c.gate)

/-- The key the engine converts, if it is not IDLE. -/
def Engine.flightKey (e : Engine) : Option (ChannelId × GateSource) := e.conversion.map Conversion.key

def pendingKeys (entries : List Entry) : List (ChannelId × GateSource) :=
  (entries.filter Entry.isPending).map Entry.key

def flightKeys (entries : List Entry) : List (ChannelId × GateSource) :=
  (entries.filter Entry.isInFlight).map Entry.key

/-- R47 of a list of entries, where `flight` is the key in flight. The three clauses of
`State.QueueSound` about IN_FLIGHT entries are one equation here. -/
structure QueueBounds (entries : List Entry) (flight : Option (ChannelId × GateSource)) : Prop where
  capacity : entries.length ≤ 24
  waited : ∀ e ∈ entries, e.waiters ≠ []
  pending : (pendingKeys entries).Nodup
  flight : flightKeys entries = flight.toList

@[simp] theorem Entry.isPending_iff {e : Entry} : e.isPending = true ↔ e.state = .pending :=
  decide_eq_true_iff

@[simp] theorem Entry.isInFlight_iff {e : Entry} : e.isInFlight = true ↔ e.state = .inFlight :=
  decide_eq_true_iff

theorem Entry.key_eq_iff {e f : Entry} : e.key = f.key ↔ e.channel = f.channel ∧ e.gate = f.gate :=
  Iff.of_eq (Prod.mk.injEq ..)

theorem Entry.key_eq_conversion_iff {e : Entry} {c : Conversion} :
    e.key = c.key ↔ e.channel = c.channel ∧ e.gate = c.gate :=
  Iff.of_eq (Prod.mk.injEq ..)

theorem nodup_pendingKeys_iff {l : List Entry} :
    (pendingKeys l).Nodup ↔ l.Pairwise fun e f =>
      ¬(e.state = .pending ∧ f.state = .pending ∧ e.channel = f.channel ∧ e.gate = f.gate) := by
  simp only [pendingKeys, List.Nodup, List.pairwise_map, List.pairwise_filter, Entry.isPending_iff, ne_eq,
    Entry.key_eq_iff, not_and]

/-- At most one entry is IN_FLIGHT, and then its key is the one in flight. -/
theorem QueueBounds.inFlight_cases {l : List Entry} {k : Option (ChannelId × GateSource)}
    (h : QueueBounds l k) :
    (l.filter Entry.isInFlight = [] ∧ k = none) ∨
      ∃ e, l.filter Entry.isInFlight = [e] ∧ k = some e.key := by
  have keys : (l.filter Entry.isInFlight).map Entry.key = k.toList := h.flight
  cases k with
  | none => exact .inl ⟨List.map_eq_nil_iff.mp keys, rfl⟩
  | some key =>
    obtain ⟨e, single, rfl⟩ := List.map_eq_singleton_iff.mp keys
    exact .inr ⟨e, single, rfl⟩

theorem State.QueueSound.bounds {s : State} (h : s.QueueSound) :
    QueueBounds s.entries s.engine.flightKey where
  capacity := h.capacity
  waited := h.waited
  pending := nodup_pendingKeys_iff.mpr h.keys
  flight := by
    have few : (s.entries.filter Entry.isInFlight).length ≤ 1 :=
      List.countP_eq_length_filter ▸ h.oneInFlight
    unfold flightKeys Engine.flightKey
    cases conv : s.engine.conversion with
    | none =>
      have empty : s.entries.filter Entry.isInFlight = [] :=
        List.filter_eq_nil_iff.mpr fun e he flying => by
          simpa [conv] using h.inFlight.mpr ⟨e, he, Entry.isInFlight_iff.mp flying⟩
      simp [empty]
    | some c =>
      obtain ⟨e, he, flying⟩ := h.inFlight.mp (by simp [conv])
      have mem : e ∈ s.entries.filter Entry.isInFlight :=
        List.mem_filter.mpr ⟨he, Entry.isInFlight_iff.mpr flying⟩
      have single : s.entries.filter Entry.isInFlight = [e] := by
        obtain ⟨f, hf⟩ := List.length_eq_one_iff.mp (Nat.le_antisymm few (List.length_pos_of_mem mem))
        rw [hf, List.mem_singleton] at mem
        rw [hf, mem]
      have sameKey : e.key = c.key := Entry.key_eq_conversion_iff.mpr (h.converting c conv e he flying)
      simp [single, sameKey]

theorem QueueBounds.exists_inFlight_iff {l : List Entry} {k : Option (ChannelId × GateSource)}
    (h : QueueBounds l k) {key : ChannelId × GateSource} :
    (∃ e ∈ l, e.state = .inFlight ∧ e.key = key) ↔ k = some key := by
  have keys : key ∈ flightKeys l ↔ k = some key := by rw [h.flight, Option.mem_toList]
  rw [← keys]
  simp [flightKeys, and_assoc]

theorem QueueBounds.queueSound {s : State} (h : QueueBounds s.entries s.engine.flightKey) :
    s.QueueSound where
  capacity := h.capacity
  waited := h.waited
  keys := nodup_pendingKeys_iff.mp h.pending
  oneInFlight := by
    rw [List.countP_eq_length_filter, ← List.length_map Entry.key]
    exact Nat.le_trans (Nat.le_of_eq (congrArg List.length h.flight)) Option.length_toList_le
  inFlight := by
    constructor
    · intro busy
      obtain ⟨c, conv⟩ := Option.isSome_iff_exists.mp busy
      obtain ⟨e, he, flying, -⟩ := h.exists_inFlight_iff.mpr (congrArg (Option.map Conversion.key) conv)
      exact ⟨e, he, flying⟩
    · rintro ⟨e, he, flying⟩
      obtain ⟨c, conv, -⟩ := Option.map_eq_some_iff.mp (h.exists_inFlight_iff.mp ⟨e, he, flying, rfl⟩)
      exact Option.isSome_of_eq_some conv
  converting := by
    intro c conv e he flying
    have sameKey : some c.key = some e.key :=
      (congrArg (Option.map Conversion.key) conv).symm.trans
        (h.exists_inFlight_iff.mp ⟨e, he, flying, rfl⟩)
    exact Entry.key_eq_conversion_iff.mp (Option.some.inj sameKey).symm

/-! ## What the operations of the queue do to its bounds -/

section Bounds

variable {l : List Entry} {k : Option (ChannelId × GateSource)}

@[simp] theorem pendingKeys_append (l m : List Entry) :
    pendingKeys (l ++ m) = pendingKeys l ++ pendingKeys m := by simp [pendingKeys]

@[simp] theorem flightKeys_append (l m : List Entry) :
    flightKeys (l ++ m) = flightKeys l ++ flightKeys m := by simp [flightKeys]

theorem keys_of_pending {e : Entry} (h : e.state = .pending) :
    pendingKeys [e] = [e.key] ∧ flightKeys [e] = [] := by
  simp [pendingKeys, flightKeys, h]

theorem keys_of_inFlight {e : Entry} (h : e.state = .inFlight) :
    pendingKeys [e] = [] ∧ flightKeys [e] = [e.key] := by
  simp [pendingKeys, flightKeys, h]

/-- Entries leave; what stays in flight is to be shown. -/
theorem QueueBounds.of_sublist {l' : List Entry} {k' : Option (ChannelId × GateSource)}
    (h : QueueBounds l k) (sub : l'.Sublist l) (flight : flightKeys l' = k'.toList) :
    QueueBounds l' k' where
  capacity := Nat.le_trans sub.length_le h.capacity
  waited := fun e he => h.waited e (sub.subset he)
  pending := h.pending.sublist ((sub.filter _).map _)
  flight := flight

/-- R65, R66: the IN_FLIGHT entry is removed when its conversion has ended. -/
theorem QueueBounds.erase_inFlight {e : Entry} (h : QueueBounds l k)
    (found : l.find? Entry.isInFlight = some e) : QueueBounds (l.erase e) none := by
  refine h.of_sublist List.erase_sublist ?_
  rw [← List.head?_filter] at found
  rcases h.inFlight_cases with ⟨empty, -⟩ | ⟨f, single, -⟩
  · simp [empty] at found
  · obtain rfl : f = e := by simpa [single] using found
    rw [flightKeys, ← List.erase_filter, single]
    simp

/-- Without an IN_FLIGHT entry nothing is in flight. -/
theorem QueueBounds.idle (h : QueueBounds l k) (found : l.find? Entry.isInFlight = none) :
    QueueBounds l none :=
  h.of_sublist (List.Sublist.refl l) (by simpa [flightKeys] using found)

/-- R25: while the engine is IDLE any entry may leave. -/
theorem QueueBounds.erase_of_idle (h : QueueBounds l none) (e : Entry) :
    QueueBounds (l.erase e) none := by
  have fewer : (flightKeys (l.erase e)).Sublist (flightKeys l) := (List.erase_sublist.filter _).map _
  rw [h.flight] at fewer
  exact h.of_sublist List.erase_sublist (List.sublist_nil.mp fewer)

/-- R24: while the engine is IDLE a PENDING entry becomes IN_FLIGHT. -/
theorem QueueBounds.replace_of_idle {e : Entry} (h : QueueBounds l none) (he : e ∈ l)
    (pending : e.state = .pending) :
    QueueBounds (l.replace e { e with state := .inFlight }) (some e.key) := by
  obtain ⟨before, after, rfl, notBefore⟩ := List.eq_append_cons_of_mem he
  have replaced : (before ++ e :: after).replace e { e with state := .inFlight } =
      before ++ [{ e with state := .inFlight }] ++ after := by
    simp [List.replace_append, notBefore]
  have split : before ++ e :: after = before ++ [e] ++ after := by simp
  rw [replaced]
  obtain ⟨capacity, waited, keys, flight⟩ := split ▸ h
  obtain ⟨gone, kept⟩ := keys_of_pending pending
  obtain ⟨gone', kept'⟩ := keys_of_inFlight (e := { e with state := .inFlight }) rfl
  simp only [pendingKeys_append, flightKeys_append, gone, kept] at keys flight
  refine ⟨by simpa using capacity, ?_, ?_, ?_⟩
  · simp only [List.forall_mem_append, List.forall_mem_singleton] at waited ⊢
    exact waited
  · simp only [pendingKeys_append, gone']
    exact keys.sublist (by simp)
  · obtain ⟨noneBefore, noneAfter⟩ : flightKeys before = [] ∧ flightKeys after = [] := by
      simpa using flight
    rw [flightKeys_append, flightKeys_append, kept', noneBefore, noneAfter]
    rfl

/-- R53: a new PENDING entry with a key that no PENDING entry has. -/
theorem QueueBounds.append {e : Entry} (h : QueueBounds l k) (room : l.length < 24)
    (waited : e.waiters ≠ []) (pending : e.state = .pending) (new : e.key ∉ pendingKeys l) :
    QueueBounds (l ++ [e]) k where
  capacity := by
    rw [List.length_append]
    exact room
  waited := by
    intro f hf
    rcases List.mem_append.mp hf with old | last
    · exact h.waited f old
    · rwa [List.mem_singleton.mp last]
  pending := by
    obtain ⟨added, -⟩ := keys_of_pending pending
    rw [pendingKeys_append, added]
    exact (List.nodup_cons.mpr ⟨new, h.pending⟩).perm (List.perm_append_comm (l₁ := [e.key]))
  flight := by
    obtain ⟨-, notFlying⟩ := keys_of_pending pending
    rw [flightKeys_append, notFlying, List.append_nil, h.flight]

/-- What an operation must leave of an entry for the keys of the queue to stay. -/
def Entry.label (e : Entry) : (ChannelId × GateSource) × EntryState := (e.key, e.state)

theorem keys_eq_of_labels {l l' : List Entry} (same : l'.map Entry.label = l.map Entry.label) :
    pendingKeys l' = pendingKeys l ∧ flightKeys l' = flightKeys l := by
  have byLabel (l : List Entry) (x : EntryState) :
      (l.filter fun e => decide (e.state = x)).map Entry.key =
        ((l.map Entry.label).filter fun y => decide (y.2 = x)).map Prod.fst := by
    simp [List.filter_map, Function.comp_def, Entry.label]
    rfl
  exact ⟨(byLabel l' _).trans (same ▸ (byLabel l _).symm),
    (byLabel l' _).trans (same ▸ (byLabel l _).symm)⟩

/-- Entries change in place and keep key and state. -/
theorem QueueBounds.of_labels {l' : List Entry} (h : QueueBounds l k)
    (same : l'.map Entry.label = l.map Entry.label) (waited : ∀ e ∈ l', e.waiters ≠ []) :
    QueueBounds l' k where
  capacity := by
    have sizes := congrArg List.length same
    rw [List.length_map, List.length_map] at sizes
    exact Nat.le_trans (Nat.le_of_eq sizes) h.capacity
  waited := waited
  pending := (keys_eq_of_labels same).1 ▸ h.pending
  flight := (keys_eq_of_labels same).2.trans h.flight

/-- R52. -/
theorem QueueBounds.join (h : QueueBounds l k) (c : ChannelId) (gate : GateSource) (w : Waiter) :
    QueueBounds (joinEntry c gate w l) k := by
  refine h.of_labels ?labels ?waited
  case labels =>
    rw [joinEntry, List.map_map]
    refine List.map_congr_left fun e _ => ?_
    dsimp only [Function.comp]
    split <;> rfl
  case waited =>
    intro f hf
    obtain ⟨e, he, rfl⟩ := List.mem_map.mp hf
    split
    · simp
    · exact h.waited e he

theorem Entry.agingExpired_frame (now : Time) (e : Entry) :
    (e.agingExpired now).label = e.label ∧ (e.agingExpired now).waiters = e.waiters := by
  unfold Entry.agingExpired
  split
  · split <;> exact ⟨rfl, rfl⟩
  · exact ⟨rfl, rfl⟩

/-- R56: the expiry of an aging limit. -/
theorem QueueBounds.aging (h : QueueBounds l k) (i : Nat) (now : Time) :
    QueueBounds (l.modify i (Entry.agingExpired now)) k := by
  refine h.of_labels ?labels ?waited
  case labels =>
    refine List.ext_getElem (by simp) fun j _ _ => ?_
    simp only [List.getElem_map, List.getElem_modify]
    split
    · exact (Entry.agingExpired_frame now _).1
    · rfl
  case waited =>
    intro f hf
    obtain ⟨j, _, rfl⟩ := List.mem_iff_getElem.mp hf
    rw [List.getElem_modify]
    split
    · rw [(Entry.agingExpired_frame now _).2]
      exact h.waited _ (List.getElem_mem _)
    · exact h.waited _ (List.getElem_mem _)

/-- R62: waiters leave, and entries left empty with them. -/
theorem QueueBounds.without (h : QueueBounds l k) (gone : Waiter → Bool) :
    QueueBounds ((l.map (Entry.without gone)).filter fun e => !e.waiters.isEmpty)
      (if losesInFlight gone l then none else k) := by
  have labels : (l.map (Entry.without gone)).map Entry.label = l.map Entry.label := by
    rw [List.map_map]
    rfl
  refine ⟨?capacity, ?waited, ?pending, ?flight⟩
  case capacity =>
    calc _ ≤ (l.map (Entry.without gone)).length := List.length_filter_le ..
      _ = l.length := List.length_map _
      _ ≤ 24 := h.capacity
  case waited =>
    intro e he
    simpa using (List.mem_filter.mp he).2
  case pending =>
    have kept : (pendingKeys (l.map (Entry.without gone))).Nodup :=
      (keys_eq_of_labels labels).1 ▸ h.pending
    exact kept.sublist ((List.filter_sublist.filter _).map _)
  case flight =>
    have inFlight : (l.map (Entry.without gone)).filter Entry.isInFlight =
        (l.filter Entry.isInFlight).map (Entry.without gone) := List.filter_map
    have lost : losesInFlight gone l =
        (l.filter Entry.isInFlight).any fun e => (e.without gone).waiters.isEmpty :=
      List.any_filter.symm
    rw [flightKeys, List.filter_filter, lost]
    simp only [Bool.and_comm]
    rw [← List.filter_filter, inFlight]
    rcases h.inFlight_cases with ⟨empty, rfl⟩ | ⟨e, single, rfl⟩
    · simp [empty]
    · rw [single]
      cases left : (e.without gone).waiters.isEmpty with
      | true => simp [left]
      | false =>
        simp [left]
        rfl

/-- R67: entries that are not IN_FLIGHT may leave. -/
theorem QueueBounds.filter (h : QueueBounds l k) {keep : Entry → Bool}
    (stays : ∀ e ∈ l, e.state = .inFlight → keep e = true) : QueueBounds (l.filter keep) k := by
  refine h.of_sublist List.filter_sublist (Eq.trans ?_ h.flight)
  rw [flightKeys, List.filter_filter]
  refine congrArg (List.map Entry.key) (List.filter_congr fun e he => ?_)
  cases flying : e.isInFlight with
  | true => simp [stays e he (Entry.isInFlight_iff.mp flying)]
  | false => simp

end Bounds

/-! ## The queue at each change of the state -/

/-- `t` has the entries of `s` and the same key in flight. -/
structure State.SameQueue (s t : State) : Prop where
  entries : t.entries = s.entries
  flight : t.engine.flightKey = s.engine.flightKey

theorem State.SameQueue.of_blocks {s t : State} (queue : t.queue = s.queue)
    (engine : t.engine = s.engine) : s.SameQueue t :=
  ⟨congrArg RequestQueue.entries queue, congrArg Engine.flightKey engine⟩

theorem State.QueueSound.of_same {s t : State} (h : s.QueueSound) (same : s.SameQueue t) :
    t.QueueSound := by
  have bounds := h.bounds
  rw [← same.entries, ← same.flight] at bounds
  exact bounds.queueSound

/-- An empty queue under an IDLE engine is within its bounds. -/
theorem State.queueSound_of_empty {s : State} (entries : s.entries = [])
    (idle : s.engine.conversion = none) : s.QueueSound := by
  refine QueueBounds.queueSound ?_
  rw [entries, Engine.flightKey, idle]
  exact ⟨by decide, nofun, List.nodup_nil, rfl⟩

section Changes

variable {s t : State}

@[simp] theorem State.entries_setEntries (l : List Entry) : (s.setEntries l).entries = l := rfl

@[simp] theorem State.entries_deliver (e : Entry) (ending : RequestEnd) :
    (s.deliver e ending).entries = s.entries :=
  congrArg RequestQueue.entries (State.deliver_queue ..)

@[simp] theorem State.entries_completeEntry (e : Entry) (o : Outcome) :
    (s.completeEntry e o).entries = s.entries.erase e := by
  rw [State.completeEntry, State.removeEntry, State.entries_setEntries, State.entries_deliver]
  rfl

theorem Engine.flightKey_of_idle {e : Engine} (idle : e.conversion = none) : e.flightKey = none :=
  congrArg (Option.map Conversion.key) idle

theorem State.QueueSound.bounds_of_idle (h : s.QueueSound) (idle : s.engine.conversion = none) :
    QueueBounds s.entries none :=
  Engine.flightKey_of_idle idle ▸ h.bounds

theorem State.queueSound_of_idle (h : QueueBounds t.entries none)
    (idle : t.engine.conversion = none) : t.QueueSound :=
  QueueBounds.queueSound (Engine.flightKey_of_idle idle ▸ h)

/-! ### The arbiter (R58) -/

theorem State.QueueSound.completeEntry (h : s.QueueSound) (idle : s.engine.conversion = none)
    (e : Entry) (o : Outcome) : (s.completeEntry e o).QueueSound := by
  refine State.queueSound_of_idle ?_ (by rw [State.completeEntry_engine, idle])
  rw [State.entries_completeEntry]
  exact (h.bounds_of_idle idle).erase_of_idle e

theorem State.QueueSound.startConversion (h : s.QueueSound) (idle : s.engine.conversion = none)
    {e : Entry} (chosen : s.chosenEntry = some e) : (s.startConversion e).QueueSound := by
  obtain ⟨mem, dispatchable⟩ := State.chosenEntry_mem chosen
  have pending := State.dispatchable_pending dispatchable
  exact QueueBounds.queueSound ((h.bounds_of_idle idle).replace_of_idle mem pending)

theorem State.QueueSound.runArbiter (h : s.QueueSound) : s.runArbiter.QueueSound :=
  State.runArbiter_keeps (P := State.QueueSound)
    (fun _ e ht idle _ _ => ht.completeEntry idle e _)
    (fun _ _ ht idle chosen _ => ht.startConversion idle chosen) h

/-! ### The engine (R27 to R36, R42) -/

/-- A conversion ends: the IN_FLIGHT entry leaves as the engine becomes IDLE. -/
theorem State.QueueSound.retire (h : s.QueueSound) {e : Entry} (found : s.inFlightEntry = some e)
    (entries : t.entries = s.entries.erase e) (idle : t.engine.conversion = none) : t.QueueSound :=
  State.queueSound_of_idle (entries ▸ h.bounds.erase_inFlight found) idle

theorem State.QueueSound.stop (h : s.QueueSound) (found : s.inFlightEntry = none)
    (entries : t.entries = s.entries) (idle : t.engine.conversion = none) : t.QueueSound :=
  State.queueSound_of_idle (entries ▸ h.bounds.idle found) idle

theorem State.QueueSound.finish (h : s.QueueSound) (c : Conversion) (o : Outcome) :
    (s.finish c o).QueueSound := by
  unfold State.finish
  dsimp only
  split
  next e found =>
    have ended : (s.stopEngine.completeEntry e o).QueueSound :=
      h.retire found (State.entries_completeEntry e o)
        (congrArg Engine.conversion (State.completeEntry_engine ..))
    exact ended.runArbiter
  next found =>
    have ended : ((s.stopEngine.publish c.channel o).evaluateWatches c.channel o).QueueSound :=
      h.stop found rfl rfl
    exact ended.runArbiter

/-- The phase of the conversion in flight changes, and what it has counted. -/
theorem State.SameQueue.of_phase {c c' : Conversion} (conv : s.engine.conversion = some c)
    (entries : t.entries = s.entries) (phase : t.engine.conversion = some c') (key : c'.key = c.key) :
    s.SameQueue t where
  entries := entries
  flight := by rw [Engine.flightKey, Engine.flightKey, conv, phase, Option.map_some, key, Option.map_some]

theorem State.QueueSound.openGate (h : s.QueueSound) {c : Conversion}
    (conv : s.engine.conversion = some c) (bound : Time) : (s.openGate c bound).QueueSound :=
  h.of_same (.of_phase conv rfl rfl rfl)

theorem State.QueueSound.endSettle (h : s.QueueSound) {c : Conversion}
    (conv : s.engine.conversion = some c) : (s.endSettle c).QueueSound := by
  unfold State.endSettle
  split
  · exact h.openGate conv _
  · exact h.of_same (.of_phase conv rfl rfl rfl)

theorem State.QueueSound.judgeReference (h : s.QueueSound) {c : Conversion}
    (conv : s.engine.conversion = some c) (how : PhaseEnd) (m : Measured) :
    (s.judgeReference c how m).QueueSound := by
  unfold State.judgeReference
  split
  next good => split <;> exact h.of_same (.of_phase conv rfl rfl rfl)
  next bad =>
    have recorded : (s.recordFault c.reference).QueueSound := h.of_same ⟨rfl, rfl⟩
    exact recorded.finish c _

theorem State.QueueSound.endCount (h : s.QueueSound) {c : Conversion}
    (conv : s.engine.conversion = some c) (how : PhaseEnd) (m : Measured) :
    (s.endCount c how m).QueueSound := by
  unfold State.endCount
  cases c.refCount with
  | none => exact h.judgeReference conv how m
  | some ref => exact h.finish c _

theorem State.QueueSound.oscillatorEdge (h : s.QueueSound) : s.oscillatorEdge.QueueSound := by
  unfold State.oscillatorEdge
  split
  next c conv =>
    split
    next opened _ bound phase =>
      split
      next full => exact h.endCount conv _ _
      next room => exact h.of_same (.of_phase conv rfl rfl rfl)
    next => exact h
    next => exact h
  next => exact h

theorem State.QueueSound.gateEdge (h : s.QueueSound) : s.gateEdge.QueueSound := by
  unfold State.gateEdge
  split
  next c conv =>
    split
    next => exact h.openGate conv _
    next =>
      split
      next closes => exact h.endCount conv _ _
      next => exact h
    next => exact h
  next => exact h

theorem State.QueueSound.settleExpiry (h : s.QueueSound) : s.settleExpiry.QueueSound := by
  unfold State.settleExpiry
  split
  next c conv =>
    split
    next =>
      split
      next due => exact h.endSettle conv
      next => exact h
    next => exact h
    next => exact h
  next => exact h

theorem State.QueueSound.gateExpiry (h : s.QueueSound) : s.gateExpiry.QueueSound := by
  unfold State.gateExpiry
  split
  next c conv =>
    split
    next =>
      split
      next due => exact h.endCount conv _ _
      next => exact h
    next => exact h
    next => exact h
  next => exact h

theorem State.QueueSound.stallExpiry (h : s.QueueSound) : s.stallExpiry.QueueSound := by
  unfold State.stallExpiry
  split
  next c conv =>
    split
    next =>
      split
      next due => exact h.endCount conv _ _
      next => exact h
    next => exact h
    next => exact h
  next => exact h

theorem State.QueueSound.pairExpiry (h : s.QueueSound) : s.pairExpiry.QueueSound := by
  unfold State.pairExpiry
  split
  next c conv =>
    split
    next =>
      split
      next due => exact h.finish c _
      next => exact h
    next =>
      split
      next due => exact h.finish c _
      next => exact h
    next => exact h
  next => exact h

/-! ### Requests admitted and removed (R52, R53, R62) -/

theorem State.QueueSound.enqueue (h : s.QueueSound) {c : ChannelId} {gate : GateSource}
    (room : s.queueFullFor c gate = false) (w : Waiter) : (s.enqueue c gate w).QueueSound := by
  unfold State.enqueue
  split
  next e joined => exact QueueBounds.queueSound (h.bounds.join c gate w)
  next created =>
    have place : s.entries.length < Config.queueCapacity := by
      simpa [State.queueFullFor, created] using room
    have new : (s.newEntry c gate w).key ∉ pendingKeys s.entries := by
      intro taken
      obtain ⟨f, mem, key⟩ := List.mem_map.mp taken
      obtain ⟨hf, pending⟩ := List.mem_filter.mp mem
      obtain ⟨channel, source⟩ := Entry.key_eq_iff.mp key
      refine List.find?_eq_none.mp created f hf ?_
      simpa [pending, Entry.hasKey] using ⟨channel, source⟩
    exact QueueBounds.queueSound (h.bounds.append place nofun rfl new)

theorem State.QueueSound.removeWaiters (h : s.QueueSound) (gone : Waiter → Bool) :
    (s.removeWaiters gone).QueueSound := by
  refine QueueBounds.queueSound ?_
  rw [State.entries_removeWaiters, Engine.flightKey, State.conversion_removeWaiters,
    apply_ite (Option.map Conversion.key)]
  exact h.bounds.without gone

/-! ### Leases, teardowns and resets -/

theorem State.QueueSound.releaseGroup (h : s.QueueSound) (p : PortId) (g : GroupId) :
    (s.releaseGroup p g).QueueSound :=
  h.of_same (.of_blocks (by simp) (by simp))

theorem State.QueueSound.leaseExpires (h : s.QueueSound) (g : GroupId) :
    (s.leaseExpires g).QueueSound := by
  unfold State.leaseExpires
  split
  next => exact h
  next p _ expiry _ =>
    split
    next due =>
      have passed : (((s.discardStaging p g).raiseGroup p g false true).passOn g).QueueSound :=
        h.of_same (.of_blocks (by simp) (by simp))
      exact passed.runArbiter
    next => exact h

theorem State.QueueSound.tearDown (h : s.QueueSound) (p : PortId)
    (next : PortController → PortController) : (s.tearDown p next).QueueSound :=
  State.QueueSound.runArbiter <|
    (h.removeWaiters (Waiter.isOwedTo p)).of_same (.of_blocks (by simp) (by simp))

theorem State.queueSound_resetBlocks (s : State) (inReset : Bool) : (s.resetBlocks inReset).QueueSound :=
  State.queueSound_of_empty rfl rfl

theorem State.QueueSound.releaseHubReset (h : s.QueueSound) : s.releaseHubReset.QueueSound := by
  unfold State.releaseHubReset
  split
  · exact s.queueSound_resetBlocks false
  · exact h

theorem State.QueueSound.setPort (h : s.QueueSound) (p : PortId) (c : PortController) :
    (s.setPort p c).QueueSound :=
  h.of_same ⟨rfl, rfl⟩

theorem State.QueueSound.assertPortReset (h : s.QueueSound) (p : PortId) :
    (s.assertPortReset p).QueueSound := by
  unfold State.assertPortReset
  split
  · exact h.setPort p _
  · cases (s.port p).state with
    | attached a => exact h.tearDown p _
    | binding client window => exact h.setPort p _
    | linked => exact h.setPort p _
    | offline => exact h

theorem State.QueueSound.silenceExpires (h : s.QueueSound) (p : PortId) :
    (s.silenceExpires p).QueueSound := by
  unfold State.silenceExpires
  split
  next =>
    split
    next due => exact h.tearDown p _
    next => exact h
  all_goals exact h

/-- A chain of checks passes one check and the rest of the chain (R50, R76). -/
theorem ite_some_eq_none_iff {α : Type} {c : Prop} [Decidable c] {x : α} {rest : Option α} :
    (if c then some x else rest) = none ↔ ¬c ∧ rest = none := by
  by_cases failed : c <;> simp [failed]

/-! ### Schedules (R75) and COMMIT (R142) -/

/-- An injection passes the check on the queue's places (R76). -/
theorem State.queueFullFor_of_missFor_none {i : ScheduleId} {x : Schedule}
    (injects : s.missFor i x = none) : s.queueFullFor x.channel x.gate = false := by
  unfold State.missFor at injects
  simp only [ite_some_eq_none_iff] at injects
  obtain ⟨-, -, -, place, -⟩ := injects
  exact Bool.eq_false_iff.mpr place

theorem State.QueueSound.scheduleDue (h : s.QueueSound) (i : ScheduleId) :
    (s.scheduleDue i).QueueSound := by
  unfold State.scheduleDue
  split
  next => exact h
  next x _ =>
    split
    next => exact h
    next due _ =>
      split
      next reached =>
        dsimp only
        split
        next missed => exact h.of_same ⟨rfl, rfl⟩
        next injects =>
          have advanced : (s.setSchedule i
              (some { x with state := .active (due + msToUs x.periodMs) })).QueueSound :=
            h.of_same ⟨rfl, rfl⟩
          exact (advanced.enqueue (State.queueFullFor_of_missFor_none injects) _).runArbiter
      next => exact h

/-- COMMIT changes the reference health and leaves the conversion (R40, R141). -/
theorem State.sameQueue_applyCommit (scope : CommitScope) : s.SameQueue (s.applyCommit scope) := by
  cases scope with
  | none => exact ⟨rfl, rfl⟩
  | some g => exact ⟨rfl, rfl⟩

theorem State.QueueSound.abortInFlight (h : s.QueueSound) : s.abortInFlight.QueueSound := by
  unfold State.abortInFlight
  dsimp only
  split
  next found => exact h.stop found rfl rfl
  next e found =>
    refine h.retire found ?_ ?_
    · rw [State.removeEntry, State.entries_setEntries, State.entries_deliver]
      rfl
    · rw [State.removeEntry_engine, State.deliver_engine]
      rfl

theorem State.QueueSound.removeDisabled (h : s.QueueSound) : s.removeDisabled.QueueSound := by
  refine QueueBounds.queueSound ?_
  rw [State.removeDisabled_engine]
  refine h.bounds.filter fun e _ flying => ?_
  simp [State.disables, Entry.isPending, flying]

theorem State.QueueSound.commit (h : s.QueueSound) (scope : CommitScope) :
    (s.commit scope).state.QueueSound := by
  have applied := h.of_same (State.sameQueue_applyCommit scope)
  unfold State.commit
  dsimp only
  split
  next aborts => exact applied.abortInFlight.removeDisabled.runArbiter
  next => exact applied.removeDisabled.runArbiter

/-! ### Answers -/

theorem State.QueueSound.attachedOnly (h : s.QueueSound) (p : PortId) {r : Reply}
    (attached : r.state.QueueSound) : (s.attachedOnly p r).state.QueueSound := by
  unfold State.attachedOnly
  split
  · exact attached
  · exact h

/-- R50, R53: an admitted request has a place. -/
theorem State.queueFullFor_of_convertRefusal_none {p : PortId} {tag : Half} {c : ChannelId}
    {gate : GateSource} (admits : s.convertRefusal p tag c gate = none) :
    s.queueFullFor c gate = false := by
  unfold State.convertRefusal at admits
  simp only [ite_some_eq_none_iff] at admits
  obtain ⟨-, -, -, -, place, -⟩ := admits
  exact Bool.eq_false_iff.mpr place

theorem State.QueueSound.convertReply (h : s.QueueSound) (p : PortId) (tag : Half)
    (channel gate priority : Byte) : (convertReply p tag channel gate priority s).state.QueueSound := by
  refine h.attachedOnly p ?_
  split
  next c g n _ _ _ =>
    split
    next refused => exact h
    next admits =>
      exact (h.enqueue (State.queueFullFor_of_convertRefusal_none admits) _).runArbiter
  next => exact h

theorem State.QueueSound.cancelReply (h : s.QueueSound) (p : PortId) (target : Half) :
    (cancelReply p target s).state.QueueSound := by
  refine h.attachedOnly p ?_
  split
  next => exact h
  next =>
    dsimp only
    split
    next => exact h
    next found => exact (h.removeWaiters _).runArbiter

theorem State.QueueSound.ownSchedule (h : s.QueueSound) (p : PortId) (schedule : Byte)
    {k : ScheduleId → Schedule → Reply} (own : ∀ i x, (k i x).state.QueueSound) :
    (s.ownSchedule p schedule k).state.QueueSound := by
  refine h.attachedOnly p ?_
  split
  next => exact h
  next i _ =>
    split
    next => exact h
    next x _ =>
      split
      next => exact own i x
      next => exact h

theorem State.QueueSound.schedDeleteReply (h : s.QueueSound) (p : PortId) (schedule : Byte) :
    (schedDeleteReply p schedule s).state.QueueSound :=
  h.ownSchedule p schedule fun i _ =>
    have removed := h.removeWaiters (Waiter.isOfSchedule i)
    State.QueueSound.runArbiter (removed.of_same ⟨rfl, rfl⟩)

theorem State.QueueSound.renewReply (h : s.QueueSound) (p : PortId) (group kind : Byte)
    (termMs : Word) : (renewReply p group kind termMs s).state.QueueSound := by
  refine h.attachedOnly p ?_
  split
  next g k term _ _ _ =>
    split
    next => exact h
    next =>
      split
      next => exact h
      next =>
        have granted : (s.grant p g k term).QueueSound := h.of_same ⟨rfl, rfl⟩
        exact granted.runArbiter
  next => exact h

theorem State.QueueSound.releaseReply (h : s.QueueSound) (p : PortId) (group : Byte) :
    (releaseReply p group s).state.QueueSound := by
  refine h.attachedOnly p ?_
  split
  next => exact h
  next g _ =>
    split
    next => exact h
    next => exact (h.releaseGroup p g).runArbiter

theorem State.QueueSound.commitReply (h : s.QueueSound) (p : PortId) (selector : Byte) :
    (commitReply p selector s).state.QueueSound := by
  refine h.attachedOnly p ?_
  split
  next => exact h
  next scope _ =>
    split
    next => exact h
    next =>
      split
      next => exact h
      next =>
        split
        next => exact h
        next => exact h.commit scope

theorem State.QueueSound.detachReply (h : s.QueueSound) (p : PortId) :
    (detachReply p s).state.QueueSound :=
  h.attachedOnly p (h.tearDown p fun c => c.detached .detach)

theorem State.sameQueue_helloReply (p : PortId) (client : Word) :
    s.SameQueue (helloReply p client s).state := by
  unfold helloReply
  split <;> exact ⟨rfl, rfl⟩

theorem State.sameQueue_bindReply (p : PortId) (attention : Byte) (silenceMs : Half) :
    s.SameQueue (bindReply p attention silenceMs s).state := by
  unfold bindReply
  split
  next client _ _ => split <;> exact ⟨rfl, rfl⟩
  all_goals exact ⟨rfl, rfl⟩

theorem State.QueueSound.schedPauseReply (h : s.QueueSound) (p : PortId) (schedule : Byte) :
    (schedPauseReply p schedule s).state.QueueSound := by
  refine h.ownSchedule p schedule fun i x => h.of_same ?_
  split <;> exact ⟨rfl, rfl⟩

theorem State.QueueSound.schedResumeReply (h : s.QueueSound) (p : PortId) (schedule : Byte) :
    (schedResumeReply p schedule s).state.QueueSound := by
  refine h.ownSchedule p schedule fun i x => h.of_same ?_
  split <;> exact ⟨rfl, rfl⟩

theorem State.QueueSound.watchClearReply (h : s.QueueSound) (p : PortId) (slot : Byte) :
    (watchClearReply p slot s).state.QueueSound := by
  refine h.attachedOnly p ?_
  split
  next => exact h
  next i _ =>
    dsimp only
    split
    next => exact h
    next found => exact h.of_same ⟨rfl, rfl⟩

theorem State.QueueSound.ackNoticeReply (h : s.QueueSound) (p : PortId) (source : Byte)
    (generation : Half) : (ackNoticeReply p source generation s).state.QueueSound := by
  refine h.attachedOnly p ?_
  split
  next => exact h
  next src _ =>
    dsimp only
    split
    next => exact h
    next n _ =>
      split
      next current => exact h.of_same ⟨rfl, rfl⟩
      next stale => exact h

/-- The answer to a command of R180. Each branch of the commands that have no lemma above is a report, a
refusal, or an update of one block that is neither the queue nor the engine. -/
theorem State.QueueSound.answer (h : s.QueueSound) (p : PortId) (tag : Half) (c : Command) :
    (answer p tag c s).state.QueueSound := by
  cases c with
  | convert channel gate priority => exact h.convertReply p tag channel gate priority
  | cancel target => exact h.cancelReply p target
  | detach => exact h.detachReply p
  | schedDelete schedule => exact h.schedDeleteReply p schedule
  | renew group kind termMs => exact h.renewReply p group kind termMs
  | release group => exact h.releaseReply p group
  | commit selector => exact h.commitReply p selector
  | nop => exact h
  | portStatus => exact h
  | hello client => exact h.of_same (State.sameQueue_helloReply p client)
  | bind attention silenceMs => exact h.of_same (State.sameQueue_bindReply p attention silenceMs)
  | schedPause schedule => exact h.schedPauseReply p schedule
  | schedResume schedule => exact h.schedResumeReply p schedule
  | watchClear slot => exact h.watchClearReply p slot
  | ackNotice source generation => exact h.ackNoticeReply p source generation
  | _ =>
    refine h.attachedOnly p (h.of_same ?_)
    repeat' split
    all_goals exact ⟨rfl, rfl⟩

/-! ### The link (R161) -/

theorem State.QueueSound.endGood (h : s.QueueSound) (p : PortId) (tag crc : Half)
    {command : State → Reply} (run : ∀ t : State, t.QueueSound → (command t).state.QueueSound) :
    (s.endGood p tag crc command).QueueSound :=
  State.endGood_keeps (P := State.QueueSound) (fun _ c ht => ht.setPort p c) run h tag crc

theorem State.QueueSound.endBad (h : s.QueueSound) (p : PortId) : (s.endBad p).QueueSound := by
  unfold State.endBad
  split
  next => exact h
  next t _ =>
    dsimp only
    split <;> exact h.of_same ⟨rfl, rfl⟩

theorem State.QueueSound.endShort (h : s.QueueSound) (p : PortId) : (s.endShort p).QueueSound := by
  unfold State.endShort
  split
  next => exact h
  next => exact h.of_same ⟨rfl, rfl⟩

theorem State.QueueSound.endTransaction (h : s.QueueSound) (p : PortId) (sdi : List Bool) :
    (s.endTransaction p sdi).QueueSound := by
  unfold State.endTransaction
  split
  next short => exact h.endShort p
  next full =>
    split
    next => exact h.endBad p
    next => exact h.endGood p _ _ fun _ ht => ht
    next c _ => exact h.endGood p _ _ fun _ ht => ht.answer p _ c

theorem State.QueueSound.beginTransaction (h : s.QueueSound) (p : PortId) :
    (s.beginTransaction p).QueueSound := by
  unfold State.beginTransaction
  dsimp only
  split
  next ignored => exact h
  next => exact h.setPort p _

/-! ### The expiries that leave the queue alone (R37, R38, R146, R148, R166) -/

theorem State.QueueSound.readyExpires (h : s.QueueSound) (p : PortId) :
    (s.readyExpires p).QueueSound := by
  unfold State.readyExpires
  split
  next =>
    split
    next due => exact h.setPort p _
    next => exact h
  all_goals exact h

theorem State.QueueSound.bindWindowExpires (h : s.QueueSound) (p : PortId) :
    (s.bindWindowExpires p).QueueSound := by
  unfold State.bindWindowExpires
  split
  next =>
    split
    next due => exact h.setPort p _
    next => exact h
  all_goals exact h

theorem State.QueueSound.setHealth (h : s.QueueSound) (r : RefId) (x : RefHealth) :
    (s.setHealth r x).QueueSound :=
  h.of_same ⟨rfl, rfl⟩

theorem State.QueueSound.holdOffExpires (h : s.QueueSound) (r : RefId) :
    (s.holdOffExpires r).QueueSound := by
  unfold State.holdOffExpires
  split
  next =>
    split
    next due => exact h.setHealth r _
    next => exact h
  next => exact h

theorem State.QueueSound.cacheExpires (h : s.QueueSound) (r : RefId) :
    (s.cacheExpires r).QueueSound := by
  unfold State.cacheExpires
  split
  next =>
    split
    next due => exact h.setHealth r _
    next => exact h
  next => exact h

theorem State.QueueSound.releasePortReset (h : s.QueueSound) (p : PortId) :
    (s.releasePortReset p).QueueSound := by
  unfold State.releasePortReset
  split
  next offline => exact h.setPort p _
  next => exact h

theorem State.QueueSound.tick (h : s.QueueSound) : s.tick.QueueSound := by
  unfold State.tick
  split
  next inReset => exact h
  next => exact h.of_same ⟨rfl, rfl⟩

theorem State.QueueSound.agingCapExpires (h : s.QueueSound) (position : Fin 24) :
    (s.agingCapExpires position).QueueSound :=
  QueueBounds.queueSound (h.bounds.aging position.val s.hubTime)

end Changes

/-! ## Every step -/

/-- A command row is the end of a full transaction with its request, answered by the block that owns the
command's state. -/
theorem exec_of_request {i : Instr} {p : PortId} {tag : Half} {c : Command}
    (row : i.request = some (p, tag, c)) (s : State) :
    exec i s = .next (s.endGood p tag (requestCrc tag c) (answer p tag c)) := by
  cases i <;> cases row <;> rfl

/-- An event that is no command of R180. -/
theorem State.QueueSound.exec_event {s : State} (h : s.QueueSound) {i : Instr}
    (event : i.request = none) : ∃ t, exec i s = .next t ∧ t.QueueSound := by
  cases i with
  | hubReset => exact ⟨_, rfl, s.queueSound_resetBlocks true⟩
  | hubResetRelease => exact ⟨_, rfl, h.releaseHubReset⟩
  | portResetAssert p => exact ⟨_, rfl, h.assertPortReset p⟩
  | portResetRelease p => exact ⟨_, rfl, h.releasePortReset p⟩
  | transactionStart p => exact ⟨_, rfl, h.beginTransaction p⟩
  | shortTransaction p sdi => exact ⟨_, rfl, h.endTransaction p sdi⟩
  | linkError p sdi => exact ⟨_, rfl, h.endTransaction p sdi⟩
  | requestDiscarded p sdi => exact ⟨_, rfl, h.endTransaction p sdi⟩
  | repeatRequest p sdi => exact ⟨_, rfl, h.endTransaction p sdi⟩
  | unknownCommand p sdi => exact ⟨_, rfl, h.endTransaction p sdi⟩
  | responseReady p => exact ⟨_, rfl, h.readyExpires p⟩
  | bindWindowExpiry p => exact ⟨_, rfl, h.bindWindowExpires p⟩
  | silenceExpiry p => exact ⟨_, rfl, h.silenceExpires p⟩
  | leaseExpiry g => exact ⟨_, rfl, h.leaseExpires g⟩
  | scheduleDue i => exact ⟨_, rfl, h.scheduleDue i⟩
  | holdOffExpiry r => exact ⟨_, rfl, h.holdOffExpires r⟩
  | cacheExpiry r => exact ⟨_, rfl, h.cacheExpires r⟩
  | agingCapExpiry position => exact ⟨_, rfl, h.agingCapExpires position⟩
  | settleEnd => exact ⟨_, rfl, h.settleExpiry⟩
  | gateClose => exact ⟨_, rfl, h.gateExpiry⟩
  | stall => exact ⟨_, rfl, h.stallExpiry⟩
  | pairDeadlineExpiry => exact ⟨_, rfl, h.pairExpiry⟩
  | oscillatorEdge => exact ⟨_, rfl, h.oscillatorEdge⟩
  | gateRisingEdge => exact ⟨_, rfl, h.gateEdge⟩
  | hubTimeAdvance => exact ⟨_, rfl, h.tick⟩
  | _ => cases event

theorem State.QueueSound.exec {s : State} (h : s.QueueSound) (i : Instr) :
    ∃ t, exec i s = .next t ∧ t.QueueSound := by
  cases row : i.request with
  | none => exact h.exec_event row
  | some request =>
    obtain ⟨p, tag, c⟩ := request
    exact ⟨_, exec_of_request row s, h.endGood p tag _ fun _ ht => ht.answer p tag c⟩

theorem State.QueueSound.step {s : State} (h : s.QueueSound) : ∃ t, step s = .next t ∧ t.QueueSound := by
  cases waiting : s.pending with
  | nil => exact ⟨s, by rw [Machine.step, waiting], h⟩
  | cons i rest =>
    have taken : (s.setPending rest).QueueSound := h.of_same ⟨rfl, rfl⟩
    obtain ⟨t, next, sound⟩ := taken.exec i
    exact ⟨t, by rw [Machine.step, waiting]; exact next, sound⟩

/-! ## Two entries a key -/

theorem QueueBounds.count_pending_le {l : List Entry} {k : Option (ChannelId × GateSource)}
    (h : QueueBounds l k) (key : ChannelId × GateSource) : (pendingKeys l).count key ≤ 1 :=
  List.nodup_iff_count.mp h.pending key

theorem QueueBounds.count_flight_le {l : List Entry} {k : Option (ChannelId × GateSource)}
    (h : QueueBounds l k) (key : ChannelId × GateSource) : (flightKeys l).count key ≤ 1 := by
  rw [h.flight]
  exact Nat.le_trans List.count_le_length Option.length_toList_le

/-- Every entry is PENDING or IN_FLIGHT. -/
theorem countP_key_eq (l : List Entry) (key : ChannelId × GateSource) :
    l.countP (fun e => decide (e.key = key)) = (pendingKeys l).count key + (flightKeys l).count key := by
  induction l with
  | nil => rfl
  | cons e l ih =>
    have single : [e].countP (fun e => decide (e.key = key)) =
        (pendingKeys [e]).count key + (flightKeys [e]).count key := by
      cases state : e.state with
      | pending => simp [keys_of_pending state, List.countP_singleton, List.count_singleton]
      | inFlight => simp [keys_of_inFlight state, List.countP_singleton, List.count_singleton]
    rw [← List.singleton_append, List.countP_append, pendingKeys_append, flightKeys_append,
      List.count_append, List.count_append, single, ih]
    omega

theorem State.QueueSound.count_key_le {s : State} (h : s.QueueSound) (c : ChannelId) (g : GateSource) :
    s.entries.countP (fun e => decide (e.channel = c ∧ e.gate = g)) ≤ 2 := by
  have byKey : s.entries.countP (fun e => decide (e.channel = c ∧ e.gate = g)) =
      s.entries.countP fun e => decide (e.key = (c, g)) := by
    simp only [Entry.key, Prod.mk.injEq]
  rw [byKey, countP_key_eq]
  exact Nat.add_le_add (h.bounds.count_pending_le (c, g)) (h.bounds.count_flight_le (c, g))

/-- Settles O54: the bounds of R47 are an invariant of the step, and they leave room for one PENDING entry
and the IN_FLIGHT one on a key. -/
theorem queueBoundsHold : Obligations.QueueBoundsHold := by
  refine ⟨?reset, ?step, ?twoAKey⟩
  case reset => exact State.queueSound_of_empty rfl rfl
  case step =>
    intro s t h next
    obtain ⟨t', next', sound⟩ := h.step
    rw [next] at next'
    cases next'
    exact sound
  case twoAKey => exact fun s c g h => h.count_key_le c g

end Sys2Proof.Machine
end

section
/-!
PROOF. R106, the statement ZonesFollowTheTable: each row of the table as one equation of `Watch.zoneOf`, and
the judgement of R105 by the status alone.
-/
namespace Sys2Proof.Machine

/-! ## The rows of R106 -/

section Zones

variable {w : Watch} {q : Word}

/-- From UNKNOWN, FAULT and INSIDE the two limits decide, without hysteresis. -/
theorem Watch.zoneOf_of_unplaced (h : w.zone = .unknown ∨ w.zone = .fault ∨ w.zone = .inside) :
    w.zoneOf q = if q.toNat < w.low.toNat then .below else
      if w.high.toNat < q.toNat then .above else .inside := by
  rcases h with h | h | h <;> simp only [Watch.zoneOf, h]

/-- A watch BELOW leaves at the low limit raised by the hysteresis. -/
theorem Watch.zoneOf_of_below (h : w.zone = .below) :
    w.zoneOf q = if w.high.toNat < q.toNat then .above else
      if w.low.toNat + w.hyst.toNat ≤ q.toNat then .inside else .below := by
  simp only [Watch.zoneOf, h]

/-- A watch ABOVE leaves at the high limit lowered by the hysteresis. -/
theorem Watch.zoneOf_of_above (h : w.zone = .above) :
    w.zoneOf q = if q.toNat < w.low.toNat then .below else
      if q.toNat ≤ w.high.toNat - w.hyst.toNat then .inside else .above := by
  simp only [Watch.zoneOf, h]

theorem ite_ite_ne {a b : Prop} [Decidable a] [Decidable b] {x y z avoided : Zone} (hx : x ≠ avoided)
    (hy : y ≠ avoided) (hz : z ≠ avoided) : (if a then x else if b then y else z) ≠ avoided := by
  split
  · exact hx
  · split
    · exact hy
    · exact hz

/-- No row of the table leads back to UNKNOWN. -/
theorem Watch.zoneOf_ne_unknown (w : Watch) (q : Word) : w.zoneOf q ≠ .unknown := by
  cases zone : w.zone with
  | unknown | fault | inside =>
    rw [Watch.zoneOf_of_unplaced (by simp [zone])]
    exact ite_ite_ne nofun nofun nofun
  | below =>
    rw [Watch.zoneOf_of_below zone]
    exact ite_ite_ne nofun nofun nofun
  | above =>
    rw [Watch.zoneOf_of_above zone]
    exact ite_ite_ne nofun nofun nofun

@[simp] theorem Watch.nextZone_some (w : Watch) (q : Word) : w.nextZone (some q) = w.zoneOf q := rfl

@[simp] theorem Watch.nextZone_none (w : Watch) : w.nextZone none = .fault := rfl

end Zones

/-- A row of the table read as its three cases, with the negated conditions in the table's spelling. -/
theorem ite_ite_cases {a b a' b' : Prop} [Decidable a] [Decidable b] {x y z : Zone} (notA : ¬a ↔ a')
    (notB : ¬b ↔ b') : let zone := if a then x else if b then y else z
    (a → zone = x) ∧ (a' → b → zone = y) ∧ (a' → b' → zone = z) :=
  ⟨fun h => if_pos h, fun h h' => (if_neg (notA.mpr h)).trans (if_pos h'),
    fun h h' => (if_neg (notA.mpr h)).trans (if_neg (notB.mpr h'))⟩

/-! ## What is judged (R105) -/

theorem Outcome.judged_of_ok {o : Outcome} (ok : o.status = .ok) : o.judged = o.ratio := by
  simp only [Outcome.judged, ok]

theorem Outcome.judged_of_not_ok {o : Outcome} (notOk : o.status ≠ .ok) : o.judged = none := by
  unfold Outcome.judged
  cases status : o.status with
  | ok => exact absurd status notOk
  | short | open_ | overrange | refFault | gateTimeout => rfl

/-- Settles O34: the rows of R106, then the judgement of every other status, then that UNKNOWN is never
entered. -/
theorem zonesFollowTheTable : Obligations.ZonesFollowTheTable := by
  refine ⟨?table, Watch.nextZone_none,
    fun o => ⟨Outcome.judged_of_ok, Outcome.judged_of_not_ok⟩, ?never⟩
  case table =>
    intro w q
    simp only [Watch.nextZone_some]
    refine ⟨fun unplaced => ?_, fun below => ?_, fun above => ?_⟩
    · rw [Watch.zoneOf_of_unplaced unplaced]
      exact ite_ite_cases Nat.not_lt Nat.not_lt
    · rw [Watch.zoneOf_of_below below]
      exact ite_ite_cases Nat.not_lt Nat.not_le
    · rw [Watch.zoneOf_of_above above]
      exact ite_ite_cases Nat.not_lt Nat.not_le
  case never =>
    intro w r
    cases r with
    | none => exact nofun
    | some q => exact w.zoneOf_ne_unknown q

end Sys2Proof.Machine
end

section
/-!
PROOF. R86, R105 and R107, the statement PublicationEvaluatesWatches. What a port keeps for one slot is put
in one view; a raising and an evaluated slot change the view of their own slot as a function of that view
alone, and no other view. So an evaluation event changes each view as the evaluation of its own slot does.
-/
namespace Sys2Proof.Machine

/-! ## The notices of one source -/

def noticesOf (source : NoticeSource) (l : List Notice) : List Notice :=
  l.filter fun n => decide (n.source = source)

section Notices

variable {source : NoticeSource} {l : List Notice}

theorem source_of_mem_noticesOf {n : Notice} (h : n ∈ noticesOf source l) : n.source = source := by
  simpa using (List.mem_filter.mp h).2

theorem any_source_iff :
    (l.any fun n => decide (n.source = source)) = true ↔ noticesOf source l ≠ [] := by
  simp [noticesOf]

/-- A change of notices that keeps each one's source changes those of one source in place. -/
theorem noticesOf_map {f : Notice → Notice} (keeps : ∀ n, (f n).source = n.source) :
    noticesOf source (l.map f) = (noticesOf source l).map f := by
  simp only [noticesOf, List.filter_map, Function.comp_def, keeps]

theorem noticesOf_insertNotice_of_ne {n : Notice} (other : n.source ≠ source) :
    noticesOf source (insertNotice n l) = noticesOf source l := by
  obtain ⟨before, after, split, inserted, _, _⟩ := insertNotice_split n l
  rw [inserted, split]
  simp [noticesOf, other]

theorem noticesOf_insertNotice_same {n : Notice} (own : n.source = source)
    (fresh : noticesOf source l = []) : noticesOf source (insertNotice n l) = [n] := by
  obtain ⟨before, after, split, inserted, _, _⟩ := insertNotice_split n l
  rw [split, noticesOf, List.filter_append, List.append_eq_nil_iff] at fresh
  obtain ⟨noneBefore, noneAfter⟩ := fresh
  simp only [noticesOf, inserted, List.filter_append, List.filter_cons, noneBefore, noneAfter, own,
    decide_true, if_true, List.nil_append]

end Notices

theorem NoticeSource.index_injective : Function.Injective NoticeSource.index := by
  intro a b h
  have same := congrArg Fin.val h
  cases a <;> cases b <;> simp only [NoticeSource.index] at same
  case slot.slot i j => exact congrArg _ (Fin.ext same)
  case slot.group i g => omega
  case group.slot g i => omega
  case group.group g k => exact congrArg _ (Fin.ext (by omega))

theorem saturatingSucc_byte (x : Byte) : saturatingSucc x = if x = 255 then 255 else x + 1 := by
  unfold saturatingSucc
  have top : BitVec.allOnes 8 = (255 : Byte) := by decide
  rw [top]
  split
  · assumption
  · rfl

/-! ## A raising, source by source (R110 to R112) -/

/-- What a raising of `raised` makes of a notice that stands on its source. -/
def Notice.raisedBy (raised : NoticeContent) (generation : Half) (n : Notice) : Notice :=
  { n with content := n.content.updatedBy raised, changes := saturatingSucc n.changes,
           generation := generation }

theorem NoticeContent.source_updatedBy {old raised : NoticeContent} (same : old.source = raised.source) :
    (old.updatedBy raised).source = old.source := by
  cases old with
  | watch => exact same.symm
  | group =>
    cases raised with
    | watch => exact same.symm
    | group => rfl

theorem source_ite_raisedBy (raised : NoticeContent) (generation : Half) (n : Notice) :
    (if n.source = raised.source then n.raisedBy raised generation else n).source = n.source := by
  split
  · exact NoticeContent.source_updatedBy (by assumption)
  · rfl

section Raise

variable (w : PortWatch) (raised : NoticeContent) (priority : Priority) (now : Time)

@[simp] theorem PortWatch.slots_raise : (w.raise raised priority now).slots = w.slots := rfl

theorem PortWatch.generations_raise : (w.raise raised priority now).generations =
    w.generations.write raised.source.index (w.generations.read raised.source.index + 1) := rfl

/-- A notice that stands on the source is updated in place. -/
theorem PortWatch.notices_raise_of_standing (standing : noticesOf raised.source w.notices ≠ []) :
    (w.raise raised priority now).notices = w.notices.map fun n =>
      if n.source = raised.source then
        n.raisedBy raised (w.generations.read raised.source.index + 1)
      else n :=
  if_pos (any_source_iff.mpr standing)

/-- Without one, a notice is created. -/
theorem PortWatch.notices_raise_of_fresh (fresh : noticesOf raised.source w.notices = []) :
    (w.raise raised priority now).notices = insertNotice
      { content := raised, changes := 1, generation := w.generations.read raised.source.index + 1,
        firstRaised := now, priority := priority } w.notices :=
  if_neg fun standing => any_source_iff.mp standing fresh

/-- The notices of another source are neither changed nor joined. -/
theorem PortWatch.noticesOf_raise_of_ne {source : NoticeSource} (other : raised.source ≠ source) :
    noticesOf source (w.raise raised priority now).notices = noticesOf source w.notices := by
  by_cases fresh : noticesOf raised.source w.notices = []
  · rw [w.notices_raise_of_fresh raised priority now fresh]
    exact noticesOf_insertNotice_of_ne other
  · rw [w.notices_raise_of_standing raised priority now fresh, noticesOf_map (source_ite_raisedBy _ _)]
    refine (List.map_congr_left fun n hn => ?_).trans (List.map_id _)
    rw [source_of_mem_noticesOf hn, if_neg other.symm, id_eq]

theorem PortWatch.noticesOf_raise_same :
    noticesOf raised.source (w.raise raised priority now).notices =
      if noticesOf raised.source w.notices = [] then
        [{ content := raised, changes := 1, generation := w.generations.read raised.source.index + 1,
           firstRaised := now, priority := priority }]
      else (noticesOf raised.source w.notices).map
        (Notice.raisedBy raised (w.generations.read raised.source.index + 1)) := by
  by_cases fresh : noticesOf raised.source w.notices = []
  · rw [if_pos fresh, w.notices_raise_of_fresh raised priority now fresh]
    exact noticesOf_insertNotice_same rfl fresh
  · rw [if_neg fresh, w.notices_raise_of_standing raised priority now fresh,
      noticesOf_map (source_ite_raisedBy _ _)]
    exact List.map_congr_left fun n hn => if_pos (source_of_mem_noticesOf hn)

end Raise

/-! ## What a port keeps for one slot -/

/-- A slot's watch, and the generation and notice of the slot as a source. -/
structure SlotView where
  watch : Option Watch
  generation : Half
  notices : List Notice

def PortWatch.view (w : PortWatch) (i : SlotId) : SlotView :=
  { watch := w.slots.read i
    generation := w.generations.read (NoticeSource.slot i).index
    notices := noticesOf (.slot i) w.notices }

/-- The view of a slot after a raising on it. -/
def SlotView.raised (v : SlotView) (content : NoticeContent) (priority : Priority) (now : Time) :
    SlotView :=
  { v with
    generation := v.generation + 1
    notices :=
      if v.notices = [] then
        [{ content := content, changes := 1, generation := v.generation + 1, firstRaised := now,
           priority := priority }]
      else v.notices.map (Notice.raisedBy content (v.generation + 1)) }

/-- The change of a slot's watch. -/
def PortWatch.setSlot (w : PortWatch) (i : SlotId) (x : Option Watch) : PortWatch :=
  { w with slots := w.slots.write i x }

section Views

variable (w : PortWatch) {i j : SlotId}

theorem PortWatch.view_setSlot_same (x : Option Watch) :
    (w.setSlot i x).view i = { w.view i with watch := x } := by
  simp [PortWatch.view, PortWatch.setSlot]

theorem PortWatch.view_setSlot_of_ne (x : Option Watch) (h : i ≠ j) :
    (w.setSlot j x).view i = w.view i := by
  simp [PortWatch.view, PortWatch.setSlot, Table.read_write_of_ne _ _ h]

theorem PortWatch.view_raise_same {content : NoticeContent} (own : content.source = .slot i)
    (priority : Priority) (now : Time) :
    (w.raise content priority now).view i = (w.view i).raised content priority now := by
  simp only [PortWatch.view, SlotView.raised, PortWatch.slots_raise, PortWatch.generations_raise, ← own,
    PortWatch.noticesOf_raise_same, Table.read_write_same]

theorem PortWatch.view_raise_of_ne {content : NoticeContent} (other : content.source ≠ .slot i)
    (priority : Priority) (now : Time) : (w.raise content priority now).view i = w.view i := by
  have index : (NoticeSource.slot i).index ≠ content.source.index :=
    fun h => other (NoticeSource.index_injective h).symm
  simp only [PortWatch.view, PortWatch.slots_raise, PortWatch.generations_raise,
    PortWatch.noticesOf_raise_of_ne _ _ _ _ other, Table.read_write_of_ne _ _ index]

end Views

/-! ## One evaluated slot (R106, R107) -/

section EvaluateSlot

variable {c : ChannelId} {ratio : Option Word} {seq : Word} {now : Time} {w : PortWatch} {i : SlotId}
  {x : Watch}

theorem PortWatch.evaluateSlot_of_empty (empty : w.slots.read i = none) :
    w.evaluateSlot c ratio seq now i = w := by
  simp only [PortWatch.evaluateSlot, empty]

theorem PortWatch.evaluateSlot_of_elsewhere (watched : w.slots.read i = some x)
    (elsewhere : x.channel ≠ c) : w.evaluateSlot c ratio seq now i = w := by
  simp only [PortWatch.evaluateSlot, watched, if_pos elsewhere]

theorem PortWatch.evaluateSlot_of_stays (watched : w.slots.read i = some x) (here : x.channel = c)
    (stays : x.nextZone ratio = x.zone) : w.evaluateSlot c ratio seq now i = w := by
  simp only [PortWatch.evaluateSlot, watched, here, ne_eq, not_true, if_false, if_pos stays]

theorem PortWatch.evaluateSlot_of_unnotified (watched : w.slots.read i = some x) (here : x.channel = c)
    (moves : x.nextZone ratio ≠ x.zone) (quiet : x.notify.notified (x.nextZone ratio) = none) :
    w.evaluateSlot c ratio seq now i = w.setSlot i (some { x with zone := x.nextZone ratio }) := by
  simp only [PortWatch.evaluateSlot, watched, here, ne_eq, not_true, if_false, if_neg moves, quiet,
    PortWatch.setSlot]

theorem PortWatch.evaluateSlot_of_notified {z : NotifiedZone} (watched : w.slots.read i = some x)
    (here : x.channel = c) (moves : x.nextZone ratio ≠ x.zone)
    (notified : x.notify.notified (x.nextZone ratio) = some z) :
    w.evaluateSlot c ratio seq now i =
      (w.setSlot i (some { x with zone := x.nextZone ratio })).raise (.watch i z ratio seq) x.priority
        now := by
  simp only [PortWatch.evaluateSlot, watched, here, ne_eq, not_true, if_false, if_neg moves, notified,
    PortWatch.setSlot]

/-- An evaluated slot sets its own watch at most, and raises on its own source at most. -/
theorem PortWatch.evaluateSlot_keeps {P : PortWatch → Prop} (unchanged : P w)
    (moved : ∀ y, P (w.setSlot i y))
    (raised : ∀ y content priority, content.source = .slot i →
      P ((w.setSlot i y).raise content priority now)) :
    P (w.evaluateSlot c ratio seq now i) := by
  cases watched : w.slots.read i with
  | none => rwa [PortWatch.evaluateSlot_of_empty watched]
  | some x =>
    by_cases here : x.channel = c
    · by_cases stays : x.nextZone ratio = x.zone
      · rwa [PortWatch.evaluateSlot_of_stays watched here stays]
      · cases notified : x.notify.notified (x.nextZone ratio) with
        | none =>
          rw [PortWatch.evaluateSlot_of_unnotified watched here stays notified]
          exact moved _
        | some z =>
          rw [PortWatch.evaluateSlot_of_notified watched here stays notified]
          exact raised _ _ _ rfl
    · rwa [PortWatch.evaluateSlot_of_elsewhere watched here]

theorem PortWatch.view_evaluateSlot_of_ne {j : SlotId} (h : i ≠ j) :
    (w.evaluateSlot c ratio seq now j).view i = w.view i := by
  refine PortWatch.evaluateSlot_keeps (P := fun v => v.view i = w.view i) rfl
    (fun y => w.view_setSlot_of_ne y h) ?raised
  intro y content priority own
  have other : content.source ≠ .slot i := by
    rw [own]
    exact fun same => h (NoticeSource.slot.inj same).symm
  rw [PortWatch.view_raise_of_ne _ other, w.view_setSlot_of_ne y h]

end EvaluateSlot

/-! ## The evaluation event, slot by slot (R105) -/

theorem nodup_everyIndex (n : Nat) : (everyIndex n).Nodup := by
  induction n with
  | zero => exact List.nodup_nil
  | succ n ih =>
    have shifted : ((everyIndex n).map Fin.succ).Nodup :=
      List.pairwise_map.mpr (ih.imp fun ne same => ne (Fin.succ_inj.mp same))
    refine List.nodup_cons.mpr ⟨?_, shifted⟩
    simp [Fin.succ_ne_zero]

section Evaluate

variable {c : ChannelId} {ratio : Option Word} {seq : Word} {now : Time} {w : PortWatch} {i : SlotId}
  {x : Watch}

theorem PortWatch.view_foldl_of_not_mem {l : List SlotId} (h : i ∉ l) :
    (l.foldl (PortWatch.evaluateSlot c ratio seq now) w).view i = w.view i := by
  induction l generalizing w with
  | nil => rfl
  | cons j l ih =>
    obtain ⟨other, rest⟩ := not_or.mp (mt List.mem_cons.mpr h)
    exact (ih rest).trans (PortWatch.view_evaluateSlot_of_ne other)

/-- The event changes the view of a slot as the evaluation of that slot does: the slots before it and after
it leave the view as it is. -/
theorem PortWatch.view_evaluate_of {v : SlotView}
    (one : ∀ u : PortWatch, u.view i = w.view i → (u.evaluateSlot c ratio seq now i).view i = v) :
    (w.evaluate c ratio seq now).view i = v := by
  obtain ⟨before, after, split⟩ := List.append_of_mem (mem_everyIndex i)
  have nodup := nodup_everyIndex 8
  rw [split, List.nodup_append, List.nodup_cons] at nodup
  obtain ⟨-, ⟨notAfter, -⟩, apart⟩ := nodup
  have notBefore : i ∉ before := fun h => apart i h i List.mem_cons_self rfl
  rw [PortWatch.evaluate, split, List.foldl_append, List.foldl_cons,
    PortWatch.view_foldl_of_not_mem notAfter]
  exact one _ (PortWatch.view_foldl_of_not_mem notBefore)

theorem PortWatch.slot_of_view {u : PortWatch} (same : u.view i = w.view i) :
    u.slots.read i = w.slots.read i :=
  congrArg SlotView.watch same

theorem PortWatch.view_evaluate_of_empty (empty : w.slots.read i = none) :
    (w.evaluate c ratio seq now).view i = w.view i :=
  PortWatch.view_evaluate_of fun u same => by
    rw [PortWatch.evaluateSlot_of_empty ((PortWatch.slot_of_view same).trans empty), same]

theorem PortWatch.view_evaluate_of_elsewhere (watched : w.slots.read i = some x)
    (elsewhere : x.channel ≠ c) : (w.evaluate c ratio seq now).view i = w.view i :=
  PortWatch.view_evaluate_of fun u same => by
    rw [PortWatch.evaluateSlot_of_elsewhere ((PortWatch.slot_of_view same).trans watched) elsewhere, same]

/-- Without a change of zone in the notify set, only the zone moves. -/
theorem PortWatch.view_evaluate_of_quiet (watched : w.slots.read i = some x) (here : x.channel = c)
    (quiet : x.nextZone ratio = x.zone ∨ x.notify.notified (x.nextZone ratio) = none) :
    (w.evaluate c ratio seq now).view i =
      { w.view i with watch := some { x with zone := x.nextZone ratio } } := by
  refine PortWatch.view_evaluate_of fun u same => ?_
  have watched' := (PortWatch.slot_of_view same).trans watched
  by_cases stays : x.nextZone ratio = x.zone
  · rw [PortWatch.evaluateSlot_of_stays watched' here stays, same, stays]
    simp only [PortWatch.view, watched]
  · rw [PortWatch.evaluateSlot_of_unnotified watched' here stays (quiet.resolve_left stays),
      PortWatch.view_setSlot_same, same]

/-- A change of zone in the notify set raises the slot's source once. -/
theorem PortWatch.view_evaluate_of_notified {z : NotifiedZone} (watched : w.slots.read i = some x)
    (here : x.channel = c) (moves : x.nextZone ratio ≠ x.zone)
    (notified : x.notify.notified (x.nextZone ratio) = some z) :
    (w.evaluate c ratio seq now).view i =
      SlotView.raised { w.view i with watch := some { x with zone := x.nextZone ratio } }
        (.watch i z ratio seq) x.priority now := by
  refine PortWatch.view_evaluate_of fun u same => ?_
  have watched' := (PortWatch.slot_of_view same).trans watched
  rw [PortWatch.evaluateSlot_of_notified watched' here moves notified, PortWatch.view_raise_same _ rfl,
    PortWatch.view_setSlot_same, same]

end Evaluate

/-! ## The hub's evaluation event -/

theorem State.portWatch_evaluateWatches (s : State) (c : ChannelId) (o : Outcome) (p : PortId) :
    (s.evaluateWatches c o).portWatch p =
      (s.portWatch p).evaluate c o.judged (s.result c).seq s.hubTime :=
  Table.read_map _ _ _

theorem State.completeEntry_watch (s : State) (e : Entry) (o : Outcome) :
    (s.completeEntry e o).watch = ((s.publish e.channel o).evaluateWatches e.channel o).watch := by
  simp only [State.completeEntry, State.removeEntry_watch, State.deliver_watch]

/-- A raising of watch content takes that content whole, and counts the change up to 255 (R109, R111). -/
theorem Notice.raisedBy_watch (i : SlotId) (z : NotifiedZone) (ratio : Option Word) (seq : Word)
    (generation : Half) (n : Notice) :
    n.raisedBy (.watch i z ratio seq) generation =
      { n with content := .watch i z ratio seq
               changes := if n.changes = 255 then 255 else n.changes + 1
               generation := generation } := by
  have content : n.content.updatedBy (.watch i z ratio seq) = .watch i z ratio seq := by
    cases n.content <;> rfl
  rw [Notice.raisedBy, content, saturatingSucc_byte]

/-- Settles O35, from the view of each slot after the event. -/
theorem publicationEvaluatesWatches : Obligations.PublicationEvaluatesWatches := by
  refine ⟨State.completeEntry_watch, ?_⟩
  intro s c o p i w v source own generation untouched
  have evaluated : v = w.evaluate c o.judged (s.result c).seq s.hubTime :=
    s.portWatch_evaluateWatches c o p
  have untouched_of {x : Option Watch} (same : v.view i = { w.view i with watch := x }) : untouched :=
    ⟨congrArg SlotView.generation same, congrArg SlotView.notices same⟩
  have slot_of {a : SlotView} (same : v.view i = a) : v.slots.read i = a.watch :=
    congrArg SlotView.watch same
  refine ⟨?empty, ?elsewhere, ?here⟩
  case empty =>
    intro empty
    have same : v.view i = w.view i := evaluated ▸ PortWatch.view_evaluate_of_empty empty
    exact ⟨(slot_of same).trans empty, untouched_of same⟩
  case elsewhere =>
    intro x watched elsewhere
    have same : v.view i = w.view i := evaluated ▸ PortWatch.view_evaluate_of_elsewhere watched elsewhere
    exact ⟨(slot_of same).trans watched, untouched_of same⟩
  case here =>
    intro x watched here zone
    have ofQuiet (quiet : zone = x.zone ∨ x.notify.notified zone = none) :
        v.view i = { w.view i with watch := some { x with zone := zone } } :=
      evaluated ▸ PortWatch.view_evaluate_of_quiet watched here quiet
    have ofNotified {z : NotifiedZone} (moves : zone ≠ x.zone)
        (notified : x.notify.notified zone = some z) : v.view i =
          SlotView.raised { w.view i with watch := some { x with zone := zone } }
            (.watch i z o.judged (s.result c).seq) x.priority s.hubTime :=
      evaluated ▸ PortWatch.view_evaluate_of_notified watched here moves notified
    refine ⟨?slot, fun quiet => untouched_of (ofQuiet quiet), ?raised⟩
    case slot =>
      by_cases stays : zone = x.zone
      · exact slot_of (ofQuiet (.inl stays))
      · cases notified : x.notify.notified zone with
        | none => exact slot_of (ofQuiet (.inr notified))
        | some z => exact slot_of (ofNotified stays notified)
    case raised =>
      intro z moves notified
      have same := ofNotified moves notified
      have notices : own v.notices = _ := congrArg SlotView.notices same
      refine ⟨congrArg SlotView.generation same, fun fresh => notices.trans (if_pos fresh), ?_⟩
      intro standing
      refine (notices.trans (if_neg standing)).trans ?_
      exact List.map_congr_left fun n _ => n.raisedBy_watch _ _ _ _ _

end Sys2Proof.Machine
end

section
/-!
PROOF. TRANSACTION_START: the slot chosen for each state of the held response (R165), the falls that are
ignored (R146, R189), and the statement FallOfSelChoosesSlot.
-/
namespace Sys2Proof.Machine

section FallOfSel

variable {s : State} {p : PortId}

/-! ## The slot chosen (R165) -/

theorem State.chosenSlot_of_none (held : (s.port p).held = .none) :
    s.chosenSlot p = s.composed p .idle := by
  rw [State.chosenSlot, held]

theorem State.chosenSlot_of_preparing {r : Response} {d : Time}
    (held : (s.port p).held = .preparing r d) : s.chosenSlot p = s.composed p .notReady := by
  rw [State.chosenSlot, held]

theorem State.chosenSlot_of_ready {x : Slot} (held : (s.port p).held = .ready x) :
    s.chosenSlot p = x := by
  rw [State.chosenSlot, held]

theorem State.chosenSlot_of_interrupted {x : Slot} (held : (s.port p).held = .interrupted x) :
    s.chosenSlot p = x := by
  rw [State.chosenSlot, held]

/-! ## The fall of SELn (R161) -/

theorem exec_transactionStart : exec (.transactionStart p) s = .next (s.beginTransaction p) := rfl

/-- R146, R189. -/
theorem State.beginTransaction_of_ignored (ignored : s.inReset = true ∨ (s.port p).state = .offline) :
    s.beginTransaction p = s :=
  if_pos ignored

/-- R161, R190: the transaction begins behind those whose ends are not taken, and nothing else changes. -/
theorem State.beginTransaction_of_begins {began : HeldState} {slot : Slot} (running : s.inReset = false)
    (online : (s.port p).state ≠ .offline) (state : (s.port p).held.state = began)
    (chosen : s.chosenSlot p = slot) :
    s.beginTransaction p = s.setPort p { s.port p with
      transactions := (s.port p).transactions ++ [{ began := began, slot := slot }] } := by
  have taken : ¬(s.inReset = true ∨ (s.port p).state = .offline) := by simp [running, online]
  subst state chosen
  exact if_neg taken

end FallOfSel

/-- Settles O6: a fall that is taken begins a transaction with the slot of the held response's state,
state by state, and a fall that is ignored leaves the state. -/
theorem fallOfSelChoosesSlot : Obligations.FallOfSelChoosesSlot := by
  intro s p composed begins
  refine ⟨fun running online => ?_,
    fun ignored => congrArg Host.Outcome.next (State.beginTransaction_of_ignored ignored)⟩
  have taken {began : HeldState} {slot : Slot} (state : (s.port p).held.state = began)
      (chosen : s.chosenSlot p = slot) : begins began slot :=
    congrArg Host.Outcome.next (State.beginTransaction_of_begins running online state chosen)
  refine ⟨fun held => ?none, fun r d held => ?preparing, fun x held => ?ready,
    fun x held => ?interrupted⟩
  case none => exact taken (congrArg Held.state held) (State.chosenSlot_of_none held)
  case preparing => exact taken (congrArg Held.state held) (State.chosenSlot_of_preparing held)
  case ready => exact taken (congrArg Held.state held) (State.chosenSlot_of_ready held)
  case interrupted => exact taken (congrArg Held.state held) (State.chosenSlot_of_interrupted held)

end Sys2Proof.Machine
end

section
/-!
PROOF. The bytes of the link's slots (R181, R182): reading a byte, a word or the CRC back from where the
layout puts it, a request slot read back whatever its padding holds (R162), and the statement
StatusCodesAndSlotLayout.
-/
namespace Sys2Proof.Machine

/-! ## Reading a run of bytes (R181) -/

section Reading

variable {b : Byte} {l m : List Byte} {i : Nat}

@[simp] theorem byteAt_cons_zero : byteAt (b :: l) 0 = b := rfl

@[simp] theorem byteAt_cons_succ : byteAt (b :: l) (i + 1) = byteAt l i := rfl

theorem byteAt_append_right : byteAt (l ++ m) (l.length + i) = byteAt m i := by
  rw [byteAt, List.getD_eq_getElem?_getD, List.getElem?_append_right (Nat.le_add_right _ _),
    Nat.add_sub_cancel_left, ← List.getD_eq_getElem?_getD, byteAt]

theorem halfAt_append_right : halfAt (l ++ m) (l.length + i) = halfAt m i := by
  rw [halfAt, Nat.add_assoc, byteAt_append_right, byteAt_append_right, halfAt]

@[simp] theorem halfAt_cons_succ : halfAt (b :: l) (i + 1) = halfAt l i := rfl

@[simp] theorem triAt_cons_succ : triAt (b :: l) (i + 1) = triAt l i := rfl

@[simp] theorem wordAt_cons_succ : wordAt (b :: l) (i + 1) = wordAt l i := rfl

@[simp] theorem length_be16 (x : Half) : (be16 x).length = 2 := rfl

/-! A value spelt most significant byte first reads back as itself. -/

/-- Two bytes of a value that stand side by side in it read back as one part of it. -/
theorem halfAt_extract {w : Nat} (x : BitVec w) (k : Nat) (l : List Byte) :
    halfAt (x.extractLsb' (k + 8) 8 :: x.extractLsb' k 8 :: l) 0 = x.extractLsb' k 16 :=
  BitVec.extractLsb'_append_extractLsb'_eq_extractLsb' rfl

@[simp] theorem halfAt_be16 (x : Half) (l : List Byte) : halfAt (be16 x ++ l) 0 = x :=
  (halfAt_extract x 0 l).trans BitVec.extractLsb'_eq_self

@[simp] theorem triAt_be24 (x : Tri) (l : List Byte) : triAt (be24 x ++ l) 0 = x :=
  calc triAt (be24 x ++ l) 0
    _ = (x.extractLsb' 16 8 ++ x.extractLsb' 0 16 : Tri) :=
        congrArg (fun low : Half => (x.extractLsb' 16 8 ++ low : Tri)) (halfAt_extract x 0 l)
    _ = x.extractLsb' 0 24 := BitVec.extractLsb'_append_extractLsb'_eq_extractLsb' rfl
    _ = x := BitVec.extractLsb'_eq_self

@[simp] theorem wordAt_be32 (x : Word) (l : List Byte) : wordAt (be32 x ++ l) 0 = x :=
  calc wordAt (be32 x ++ l) 0
    _ = (x.extractLsb' 16 16 ++ x.extractLsb' 0 16 : Word) :=
        congr (congrArg (fun high low : Half => (high ++ low : Word)) (halfAt_extract x 16 _))
          (halfAt_extract x 0 l)
    _ = x.extractLsb' 0 32 := BitVec.extractLsb'_append_extractLsb'_eq_extractLsb' rfl
    _ = x := BitVec.extractLsb'_eq_self

/-! What stands behind a spelt value is read as if it stood alone. -/

@[simp] theorem halfAt_be16_add (x : Half) : halfAt (be16 x ++ l) (i + 2) = halfAt l i := rfl

@[simp] theorem triAt_be16_add (x : Half) : triAt (be16 x ++ l) (i + 2) = triAt l i := rfl

@[simp] theorem triAt_be24_add (x : Tri) : triAt (be24 x ++ l) (i + 3) = triAt l i := rfl

@[simp] theorem wordAt_be32_add (x : Word) : wordAt (be32 x ++ l) (i + 4) = wordAt l i := rfl

@[simp] theorem byteAt_be32_add (x : Word) : byteAt (be32 x ++ l) (i + 4) = byteAt l i := rfl

end Reading

/-! ## The CRC and the padding behind a head (R163, R182) -/

section Sealed

variable {head padding : List Byte} {crc : Half} {n : Nat}

theorem take_sealed (length : head.length = n) : (head ++ be16 crc ++ padding).take n = head := by
  rw [List.append_assoc, List.take_left' length]

theorem halfAt_sealed (length : head.length = n) : halfAt (head ++ be16 crc ++ padding) n = crc := by
  subst length
  rw [List.append_assoc]
  exact (halfAt_append_right (i := 0)).trans (halfAt_be16 crc padding)

theorem drop_sealed (length : head.length = n) : (head ++ be16 crc ++ padding).drop (n + 2) = padding :=
  List.drop_left' (by rw [List.length_append, length, length_be16])

end Sealed

/-! ## Response slots (R164, R182) -/

section ResponseSlot

variable (r : Response) (flags : LinkFlags)

theorem length_slotHead (status : Status) (tagEcho : Half) (payload : List Byte) :
    (slotHead status tagEcho flags payload).length = payload.length + 5 :=
  rfl

/-- The bits of the flags byte do not overlap, so it is their sum. -/
theorem LinkFlags.byte_eq_sum : flags.byte =
    (if flags.backlog then 8 else 0) + (if flags.isRepeat then 4 else 0) +
      (if flags.cqNonempty then 2 else 0) + (if flags.noticesPending then 1 else 0) := by
  obtain ⟨backlog, isRepeat, cqNonempty, noticesPending⟩ := flags
  revert backlog isRepeat cqNonempty noticesPending
  decide

theorem bytes_sealSlot : (sealSlot r flags).bytes =
    slotHead r.status r.tagEcho flags r.payload ++
      be16 (crc16 (slotHead r.status r.tagEcho flags r.payload)) ++
      List.replicate (64 - (r.payload.length + 7)) 0 := by
  have size : (slotHead r.status r.tagEcho flags r.payload ++
      be16 (crc16 (slotHead r.status r.tagEcho flags r.payload))).length = r.payload.length + 7 := by
    rw [List.length_append, length_slotHead, length_be16]
  simp only [Slot.bytes, sealSlot, size, Config.slotBytes]

theorem length_bytes_sealSlot (fits : r.payload.length ≤ 57) : (sealSlot r flags).bytes.length = 64 := by
  rw [bytes_sealSlot, List.length_append, List.length_append, length_slotHead, length_be16,
    List.length_replicate]
  omega

theorem byteAt_sealSlot_len : byteAt (sealSlot r flags).bytes 0 = byteOf (r.payload.length + 4) :=
  rfl

theorem byteAt_sealSlot_status : byteAt (sealSlot r flags).bytes 1 = r.status.code :=
  rfl

theorem halfAt_sealSlot_tagEcho : halfAt (sealSlot r flags).bytes 2 = r.tagEcho := by
  simp [bytes_sealSlot, slotHead]

theorem byteAt_sealSlot_flags : byteAt (sealSlot r flags).bytes 4 = flags.byte :=
  rfl

theorem payload_sealSlot :
    ((sealSlot r flags).bytes.drop 5).take r.payload.length = r.payload := by
  rw [bytes_sealSlot, List.append_assoc]
  exact List.take_left

theorem crc_sealSlot : halfAt (sealSlot r flags).bytes (r.payload.length + 5) =
    crc16 ((sealSlot r flags).bytes.take (r.payload.length + 5)) := by
  rw [bytes_sealSlot, halfAt_sealed (length_slotHead ..), take_sealed (length_slotHead ..)]

theorem padding_sealSlot {b : Byte} (behind : b ∈ (sealSlot r flags).bytes.drop (r.payload.length + 7)) :
    b = 0 := by
  rw [bytes_sealSlot, drop_sealed (length_slotHead ..)] at behind
  exact List.eq_of_mem_replicate behind

end ResponseSlot

/-! ## Request slots (R180, R182) -/

section RequestSlot

variable (tag : Half) (c : Command) (padding : List Byte)

theorem length_requestHead : (requestHead tag c).length = c.len + 1 :=
  rfl

theorem byteAt_requestSlot_len : byteAt (requestSlot tag c padding) 0 = byteOf c.len :=
  rfl

theorem byteAt_requestSlot_code : byteAt (requestSlot tag c padding) 1 = c.code :=
  rfl

theorem halfAt_requestSlot_tag : halfAt (requestSlot tag c padding) 2 = tag := by
  simp [requestSlot, requestHead]

theorem params_requestSlot : ((requestSlot tag c padding).drop 4).take (c.len - 3) = c.params := by
  rw [requestSlot, List.append_assoc]
  exact List.take_left

theorem take_requestSlot : (requestSlot tag c padding).take (c.len + 1) = requestHead tag c :=
  take_sealed (length_requestHead tag c)

theorem halfAt_requestSlot_crc : halfAt (requestSlot tag c padding) (c.len + 1) = requestCrc tag c :=
  halfAt_sealed (length_requestHead tag c)

theorem padding_requestSlot : (requestSlot tag c padding).drop (c.len + 3) = padding :=
  drop_sealed (length_requestHead tag c)

/-- R180 read backwards: behind any four bytes, a command's parameters come back whole, whatever follows
them. -/
theorem commandOf_params (b₀ b₁ b₂ b₃ : Byte) (rest : List Byte) :
    commandOf c.code (b₀ :: b₁ :: b₂ :: b₃ :: (c.params ++ rest)) = some c := by
  cases c <;> simp [commandOf, Command.code, Command.params]

theorem commandOf_requestSlot : commandOf c.code (requestSlot tag c padding) = some c := by
  rw [requestSlot, List.append_assoc]
  exact commandOf_params c _ _ _ _ _

/-- R162: a command's request slot is good, whatever its padding holds. -/
theorem checkRequest_requestSlot :
    checkRequest (requestSlot tag c padding) = .good tag (requestCrc tag c) c := by
  obtain ⟨atLeast, atMost⟩ := Laws.Spelling.len_bounds c
  have len : (byteOf c.len).toNat = c.len := Nat.mod_eq_of_lt (by omega)
  have inRange : ¬(c.len < 3 ∨ 60 < c.len) := by omega
  have crcGood : ¬crc16 (requestHead tag c) ≠ requestCrc tag c := not_not_intro rfl
  simp only [checkRequest, byteAt_requestSlot_len, len, if_neg inRange, take_requestSlot,
    halfAt_requestSlot_crc, if_neg crcGood, byteAt_requestSlot_code, commandOf_requestSlot,
    halfAt_requestSlot_tag, if_pos]

end RequestSlot

/-- Settles O15: the codes of R179, then the response slot field by field, then the request slot, whose
check does not depend on its padding. -/
theorem statusCodesAndSlotLayout : Obligations.StatusCodesAndSlotLayout := by
  refine ⟨⟨rfl, rfl⟩, fun r flags fits => ?response, fun tag c padding => ?request⟩
  case response =>
    exact ⟨length_bytes_sealSlot r flags fits, byteAt_sealSlot_len r flags,
      byteAt_sealSlot_status r flags, halfAt_sealSlot_tagEcho r flags,
      (byteAt_sealSlot_flags r flags).trans flags.byte_eq_sum, payload_sealSlot r flags,
      crc_sealSlot r flags, fun _ => padding_sealSlot r flags⟩
  case request =>
    obtain ⟨atLeast, atMost⟩ := Laws.Spelling.len_bounds c
    have crc : halfAt (requestSlot tag c padding) (c.len + 1) =
        crc16 ((requestSlot tag c padding).take (c.len + 1)) := by
      rw [halfAt_requestSlot_crc, take_requestSlot, requestCrc]
    have paddingIgnored (other : List Byte) :
        checkRequest (requestSlot tag c other) = checkRequest (requestSlot tag c padding) := by
      rw [checkRequest_requestSlot, checkRequest_requestSlot]
    exact ⟨atLeast, atMost, byteAt_requestSlot_len tag c padding, byteAt_requestSlot_code tag c padding,
      halfAt_requestSlot_tag tag c padding, params_requestSlot tag c padding, crc,
      padding_requestSlot tag c padding, fun other _ _ => paddingIgnored other⟩

end Sys2Proof.Machine
end

section
/-!
PROOF. A fan-out and a completed entry, block by block (R42, R65, R78, R86), and the statement
CompletionPublishesAndFansOut. A completion moves credits from waiters to records: no port's holdings change.
-/
namespace Sys2Proof.Machine

/-! ## The run counts (R78) -/

/-- A schedule whose run count has advanced by `n`. -/
def Schedule.ran (n : Nat) (x : Schedule) : Schedule :=
  { x with runCount := x.runCount + BitVec.ofNat 32 n }

theorem Schedule.ran_zero : Schedule.ran 0 = id := by
  funext x
  simp [Schedule.ran]

theorem Schedule.ran_ran (m n : Nat) (x : Schedule) : (x.ran m).ran n = x.ran (m + n) := by
  simp [Schedule.ran, BitVec.ofNat_add, BitVec.add_assoc]

section Delivery

variable (s : State)

theorem State.schedule_countRun (o : Origin) (i : ScheduleId) :
    (s.countRun o).schedule i =
      (s.schedule i).map (Schedule.ran (if o = .schedule i then 1 else 0)) := by
  cases o with
  | direct tag => simp [State.countRun, Schedule.ran_zero]
  | schedule j =>
    by_cases h : i = j
    · subst h
      rw [State.countRun, State.schedule_setSchedule, if_pos rfl]
      rfl
    · rw [State.countRun, State.schedule_setSchedule_of_ne _ _ h,
        if_neg (fun same => h (Origin.schedule.inj same).symm), Schedule.ran_zero, Option.map_id, id_eq]

theorem State.schedule_deliverTo (e : Entry) (ending : RequestEnd) (w : Waiter) (i : ScheduleId) :
    (State.deliverTo e ending s w).schedule i =
      (s.schedule i).map (Schedule.ran (if w.origin = .schedule i then 1 else 0)) :=
  State.schedule_countRun _ w.origin i

/-- Each record for a schedule's waiter advances its run count by one. -/
theorem State.schedule_deliver (e : Entry) (ending : RequestEnd) (i : ScheduleId) :
    (s.deliver e ending).schedule i = (s.schedule i).map
      (Schedule.ran (e.waiters.countP fun w => decide (w.origin = .schedule i))) := by
  unfold State.deliver
  generalize e.waiters = l
  induction l generalizing s with
  | nil => simp [Schedule.ran_zero]
  | cons w l ih =>
    rw [List.foldl_cons, ih, State.schedule_deliverTo, Option.map_map, List.countP_cons, Nat.add_comm]
    congr 1
    funext x
    simp [Schedule.ran_ran]

end Delivery

/-! ## A completed entry (R42) -/

section Completion

variable (s : State) (e : Entry) (o : Outcome)

theorem State.result_completeEntry (c : ChannelId) :
    (s.completeEntry e o).result c =
      if c = e.channel then { seq := (s.result c).seq + 1, outcome := some o } else s.result c := by
  rw [State.completeEntry, State.result, State.removeEntry_results, State.deliver_results]
  by_cases h : c = e.channel
  · subst h
    rw [if_pos rfl]
    exact State.result_setResult ..
  · rw [if_neg h]
    exact State.result_setResult_of_ne _ _ h

theorem State.cq_completeEntry (p : PortId) :
    (s.completeEntry e o).cq p = s.cq p ++ (e.waiters.filter fun w => decide (w.port = p)).map fun w =>
      .request w.origin e.channel e.gate (.published ((s.result e.channel).seq + 1) o) s.hubTime := by
  have seq : (((s.publish e.channel o).evaluateWatches e.channel o).result e.channel).seq =
      (s.result e.channel).seq + 1 :=
    congrArg ResultRecord.seq (State.result_setResult ..)
  unfold State.completeEntry
  dsimp only
  rw [seq]
  exact State.cq_deliver ..

theorem State.schedule_completeEntry (i : ScheduleId) :
    (s.completeEntry e o).schedule i = (s.schedule i).map
      (Schedule.ran (e.waiters.countP fun w => decide (w.origin = .schedule i))) := by
  rw [State.completeEntry, State.schedule, State.removeEntry_schedules]
  exact State.schedule_deliver ..

theorem State.watch_completeEntry :
    (s.completeEntry e o).watch = ((s.publish e.channel o).evaluateWatches e.channel o).watch := by
  rw [State.completeEntry, State.removeEntry_watch, State.deliver_watch]

theorem State.arrivals_completeEntry : (s.completeEntry e o).queue.arrivals = s.queue.arrivals := by
  have queue : (s.completeEntry e o).queue =
      { ((s.publish e.channel o).evaluateWatches e.channel o).queue with
        entries := s.entries.erase e } := by
    rw [State.completeEntry, State.removeEntry, State.entries_deliver, State.setEntries_queue,
      State.deliver_queue]
    rfl
  rw [queue]
  rfl

/-- The port's notices after the evaluation event of a completion (R105). -/
theorem State.portWatch_completeEntry (p : PortId) : (s.completeEntry e o).portWatch p =
    (s.portWatch p).evaluate e.channel o.judged ((s.result e.channel).seq + 1) s.hubTime := by
  rw [State.portWatch, State.watch_completeEntry]
  have seq : ((s.publish e.channel o).result e.channel).seq = (s.result e.channel).seq + 1 :=
    congrArg ResultRecord.seq (State.result_setResult ..)
  have read : ((s.publish e.channel o).evaluateWatches e.channel o).watch.read p =
      (s.portWatch p).evaluate e.channel o.judged ((s.publish e.channel o).result e.channel).seq
        s.hubTime := Table.read_map ..
  rw [read, seq]

end Completion

/-- Settles O27: a completed entry, block by block. -/
theorem completionPublishesAndFansOut : Obligations.CompletionPublishesAndFansOut := by
  intro s e o t seq
  refine ⟨(s.result_completeEntry e o _).trans (if_pos rfl),
    fun c other => (s.result_completeEntry e o c).trans (if_neg other), s.cq_completeEntry e o,
    s.schedule_completeEntry e o, s.watch_completeEntry e o, s.entries_completeEntry e o,
    s.arrivals_completeEntry e o, ?_⟩
  simp [t]

/-! ## Holdings (R51) -/

section Holdings

variable {s : State} {e : Entry}

theorem State.leaseRequestsOf_congr {t : State} (groups : t.leases.groups = s.leases.groups)
    (p : PortId) : t.leaseRequestsOf p = s.leaseRequestsOf p := by
  unfold State.leaseRequestsOf State.group
  rw [groups]

/-- A completion turns each waiter into a record. -/
theorem State.holdings_completeEntry (mem : e ∈ s.entries) (o : Outcome) (p : PortId) :
    (s.completeEntry e o).holdings p = s.holdings p := by
  have moved := waitersOf_erase (p := p) mem
  have requests := State.leaseRequestsOf_congr (s := s) (t := s.completeEntry e o) (by simp) p
  unfold State.holdings
  rw [requests, State.cq_completeEntry, State.entries_completeEntry, List.length_append,
    List.length_map, ← List.countP_eq_length_filter]
  omega

theorem waitersOf_replace {f : Entry} {l : List Entry} (mem : e ∈ l) (same : f.waiters = e.waiters)
    (p : PortId) : waitersOf p (l.replace e f) = waitersOf p l := by
  obtain ⟨before, after, rfl, notBefore⟩ := List.eq_append_cons_of_mem mem
  simp [List.replace_append, notBefore, same]

theorem State.holdings_startConversion (mem : e ∈ s.entries) (p : PortId) :
    (s.startConversion e).holdings p = s.holdings p := by
  have waiters : waitersOf p (s.startConversion e).entries = waitersOf p s.entries :=
    waitersOf_replace (f := { e with state := .inFlight }) mem rfl p
  unfold State.holdings
  rw [waiters]
  rfl

end Holdings

end Sys2Proof.Machine
end

section
/-!
PROOF. The teardown (R154): what is removed before the arbiter's run, block by block, why the port then holds
nothing in any block, why the arbiter's run leaves it so, and the statement TeardownLeavesNothing.
-/
namespace Sys2Proof.Machine

/-! ## A port that holds nothing (R93) -/

section HoldsNothing

variable {s t : State} {p : PortId}

theorem State.holdings_eq_zero_iff : s.holdings p = 0 ↔
    s.cq p = [] ∧ (∀ e ∈ s.entries, ∀ w ∈ e.waiters, w.port ≠ p) ∧
      ∀ g, ∀ q ∈ (s.group g).waiting, q.port ≠ p := by
  simp only [State.holdings, Nat.add_eq_zero_iff, List.length_eq_zero_iff, waitersOf,
    State.leaseRequestsOf, List.sum_eq_zero_iff_forall_eq_nat, List.forall_mem_map,
    List.countP_eq_zero, decide_eq_true_eq, and_assoc, mem_everyIndex, forall_const]

theorem State.HoldsNothing.cq_eq_nil (h : s.HoldsNothing p) : s.cq p = [] :=
  (State.holdings_eq_zero_iff.mp h.credits).1

theorem State.HoldsNothing.waiter_ne (h : s.HoldsNothing p) {e : Entry} (he : e ∈ s.entries)
    {w : Waiter} (hw : w ∈ e.waiters) : w.port ≠ p :=
  (State.holdings_eq_zero_iff.mp h.credits).2.1 e he w hw

theorem State.HoldsNothing.request_ne (h : s.HoldsNothing p) {g : GroupId} {q : LeaseRequest}
    (hq : q ∈ (s.group g).waiting) : q.port ≠ p :=
  (State.holdings_eq_zero_iff.mp h.credits).2.2 g q hq

/-- All 16 credits are free (R51). -/
theorem State.HoldsNothing.freeCredits (h : s.HoldsNothing p) : s.freeCredits p = 16 := by
  rw [State.freeCredits, h.credits]
  rfl

theorem State.HoldsNothing.tagInUse (h : s.HoldsNothing p) (tag : Half) :
    s.tagInUse p tag = false := by
  have entries : s.entries.any (fun e => e.waiters.any (Waiter.isDirectOf p tag)) = false := by
    simp only [List.any_eq_false]
    intro e he waits
    obtain ⟨w, hw, direct⟩ := List.any_eq_true.mp waits
    refine h.waiter_ne he hw ?_
    simp only [Waiter.isDirectOf, Bool.and_eq_true, decide_eq_true_eq] at direct
    exact direct.1
  have requests :
      (everyIndex 3).any (fun g => (s.group g).waiting.any (LeaseRequest.isOf p tag)) = false := by
    simp only [List.any_eq_false]
    intro g _ waits
    obtain ⟨q, hq, own⟩ := List.any_eq_true.mp waits
    refine h.request_ne hq ?_
    simp only [LeaseRequest.isOf, Bool.and_eq_true, decide_eq_true_eq] at own
    exact own.1
  rw [State.tagInUse, entries, requests, h.cq_eq_nil]
  simp

/-- Nothing can ask for attention (R158). -/
theorem State.HoldsNothing.atnAsserted (h : s.HoldsNothing p) : s.atnAsserted p = false := by
  have records : s.cqNonempty p = false := by rw [State.cqNonempty, h.cq_eq_nil]; rfl
  have notices : s.noticesPending p = false := by rw [State.noticesPending, h.watches]; rfl
  rw [State.atnAsserted, records, notices, Bool.or_false, Bool.and_false]

/-- An evaluation event finds no slot in use (R107). -/
theorem PortWatch.evaluate_reset (c : ChannelId) (ratio : Option Word) (seq : Word) (now : Time) :
    PortWatch.reset.evaluate c ratio seq now = PortWatch.reset := by
  refine PortWatch.evaluate_keeps (P := fun w => w = PortWatch.reset) (fun v i hv => ?_) rfl
  subst hv
  exact PortWatch.evaluateSlot_of_empty (Table.read_fill _ _)

theorem State.HoldsNothing.completeEntry (h : s.HoldsNothing p) {e : Entry} (he : e ∈ s.entries)
    (o : Outcome) : (s.completeEntry e o).HoldsNothing p where
  credits := (State.holdings_completeEntry he o p).trans h.credits
  schedules := by
    intro i x found
    rw [State.schedule_completeEntry] at found
    obtain ⟨y, old, rfl⟩ := Option.map_eq_some_iff.mp found
    exact h.schedules i y old
  watches := by rw [State.portWatch_completeEntry, h.watches, PortWatch.evaluate_reset]
  groups := by
    have leases := s.completeEntry_leases e o
    intro g
    rw [State.holder, State.group, leases]
    exact h.groups g

theorem State.HoldsNothing.startConversion (h : s.HoldsNothing p) {e : Entry} (he : e ∈ s.entries) :
    (s.startConversion e).HoldsNothing p where
  credits := (State.holdings_startConversion he p).trans h.credits
  schedules := h.schedules
  watches := h.watches
  groups := h.groups

/-- The arbiter delivers to waiters alone (R65), and none of them is the port's. -/
theorem State.HoldsNothing.runArbiter (h : s.HoldsNothing p) : s.runArbiter.HoldsNothing p :=
  State.runArbiter_keeps (P := fun t => t.HoldsNothing p)
    (fun _ _ ht _ chosen _ => ht.completeEntry (State.chosenEntry_mem chosen).1 _)
    (fun _ _ ht _ chosen _ => ht.startConversion (State.chosenEntry_mem chosen).1) h

end HoldsNothing

/-! ## What the arbiter's run leaves to every port (R65, R78) -/

/-- Records join at the tail, and of the schedules only the run counts move. -/
structure State.Extends (s t : State) : Prop where
  records : ∀ q, s.cq q <+: t.cq q
  schedules : ∀ i, ∃ n : Schedule → Word,
    t.schedule i = (s.schedule i).map fun x => { x with runCount := n x }

theorem State.Extends.refl (s : State) : s.Extends s where
  records := fun _ => List.prefix_refl _
  schedules := fun _ => ⟨Schedule.runCount, Option.map_id'.symm⟩

theorem State.Extends.trans {s t u : State} (first : s.Extends t) (second : t.Extends u) :
    s.Extends u where
  records := fun q => (first.records q).trans (second.records q)
  schedules := by
    intro i
    obtain ⟨m, first⟩ := first.schedules i
    obtain ⟨n, second⟩ := second.schedules i
    exact ⟨fun x => n { x with runCount := m x }, by rw [second, first, Option.map_map]; rfl⟩

theorem State.extends_completeEntry (s : State) (e : Entry) (o : Outcome) :
    s.Extends (s.completeEntry e o) where
  records := fun q => ⟨_, (s.cq_completeEntry e o q).symm⟩
  schedules := fun i => ⟨_, s.schedule_completeEntry e o i⟩

theorem State.extends_runArbiter (s : State) : s.Extends s.runArbiter :=
  State.runArbiter_keeps (P := s.Extends)
    (fun t _ ht _ _ _ => ht.trans (t.extends_completeEntry _ _))
    (fun _ _ ht _ _ _ => ⟨ht.records, ht.schedules⟩)
    (State.Extends.refl s)

/-! ## The removals of a teardown, before the arbiter's run -/

/-- What a released group's record becomes, from its wait list (R129). -/
def GroupLease.passed (now : Time) : List LeaseRequest → GroupLease
  | [] => { lease := .free, waiting := [] }
  | q :: rest => { lease := .held q.port q.kind (now + msToUs q.termMs), waiting := rest }

/-- The LEASE_GRANTED record that a released group `g` leaves for port `q` (R129). -/
def grantRecords (now : Time) (g : GroupId) (q : PortId) : List LeaseRequest → List Completion
  | [] => []
  | x :: _ => if x.port = q then [.lease x.tag g x.kind (now + msToUs x.termMs) now] else []

/-- RELEASE_REQUESTED for the new holder `q` where a request remains (R130). -/
def PortWatch.askedBy (now : Time) (g : GroupId) (q : PortId) (w : PortWatch) :
    List LeaseRequest → PortWatch
  | x :: _ :: _ => if x.port = q then w.raise (.group g true false) 3 now else w
  | _ => w

/-- The requests of the other ports for a group (R133). -/
def State.othersFor (s : State) (p : PortId) (g : GroupId) : List LeaseRequest :=
  (s.group g).waiting.filter fun q => decide (q.port ≠ p)

section ReleaseIfHeld

variable (s : State) (p q : PortId) (g k : GroupId)

theorem State.group_releaseIfHeld_eq : (State.releaseIfHeld p s g).group k =
    if s.holder g = some p ∧ k = g then GroupLease.passed s.hubTime (s.group g).waiting
    else s.group k := by
  rw [State.group_releaseIfHeld]
  cases (s.group g).waiting <;> rfl

theorem State.cq_releaseIfHeld_eq : (State.releaseIfHeld p s g).cq q = s.cq q ++
    if s.holder g = some p then grantRecords s.hubTime g q (s.group g).waiting else [] := by
  rw [State.cq_releaseIfHeld]
  cases (s.group g).waiting with
  | nil => simp [grantRecords]
  | cons x rest => by_cases held : s.holder g = some p <;> simp [grantRecords, held]

theorem State.portWatch_releaseIfHeld_eq : (State.releaseIfHeld p s g).portWatch q =
    if s.holder g = some p then (s.portWatch q).askedBy s.hubTime g q (s.group g).waiting
    else s.portWatch q := by
  rw [State.portWatch_releaseIfHeld]
  match (s.group g).waiting with
  | [] => simp [PortWatch.askedBy]
  | [x] => simp [PortWatch.askedBy]
  | x :: y :: rest => by_cases held : s.holder g = some p <;> simp [PortWatch.askedBy, held]

end ReleaseIfHeld

section TearDownLeases

variable (s : State) (p q : PortId) (k : GroupId)

/-- The groups are released one after the other, in the order G0, G1, G2 (log 16). -/
theorem State.tearDownLeases_eq : s.tearDownLeases p = State.releaseIfHeld p
    (State.releaseIfHeld p (State.releaseIfHeld p (s.dropLeaseRequests p) 0) 1) 2 := rfl

theorem State.group_tearDownLeases : (s.tearDownLeases p).group k =
    if s.holder k = some p then GroupLease.passed s.hubTime (s.othersFor p k)
    else { s.group k with waiting := s.othersFor p k } := by
  rw [State.tearDownLeases_eq]
  match k with
  | 0 => simp [State.group_releaseIfHeld_eq, State.holder_releaseIfHeld_of_ne,
      State.group_dropLeaseRequests, State.othersFor]
  | 1 => simp [State.group_releaseIfHeld_eq, State.holder_releaseIfHeld_of_ne,
      State.group_dropLeaseRequests, State.othersFor]
  | 2 => simp [State.group_releaseIfHeld_eq, State.holder_releaseIfHeld_of_ne,
      State.group_dropLeaseRequests, State.othersFor]

theorem State.cq_tearDownLeases : (s.tearDownLeases p).cq q = s.cq q ++ (everyIndex 3).flatMap fun g =>
    if s.holder g = some p then grantRecords s.hubTime g q (s.othersFor p g) else [] := by
  have three : everyIndex 3 = [0, 1, 2] := rfl
  have dropped : (s.dropLeaseRequests p).cq q = s.cq q := rfl
  rw [State.tearDownLeases_eq, three]
  simp [State.cq_releaseIfHeld_eq, State.holder_releaseIfHeld_of_ne, State.group_releaseIfHeld_eq,
    State.group_dropLeaseRequests, State.othersFor, dropped]

theorem State.portWatch_tearDownLeases : (s.tearDownLeases p).portWatch q =
    (everyIndex 3).foldl (fun w g =>
      if s.holder g = some p then w.askedBy s.hubTime g q (s.othersFor p g) else w)
      (s.portWatch q) := by
  have three : everyIndex 3 = [0, 1, 2] := rfl
  have dropped : (s.dropLeaseRequests p).portWatch q = s.portWatch q := rfl
  rw [State.tearDownLeases_eq, three]
  simp [State.portWatch_releaseIfHeld_eq, State.holder_releaseIfHeld_of_ne,
    State.group_releaseIfHeld_eq, State.group_dropLeaseRequests, State.othersFor, dropped]

theorem State.staging_tearDownLeases (c : ChannelId) :
    (s.tearDownLeases p).leases.staging.read c =
      if s.holder (groupOf c) = some p then none else s.leases.staging.read c := by
  rw [State.tearDownLeases_eq]
  generalize ofGroup : groupOf c = k
  match k with
  | 0 => simp [State.staging_releaseIfHeld, ofGroup]
  | 1 => simp [State.staging_releaseIfHeld, State.holder_releaseIfHeld_of_ne, ofGroup]
  | 2 => simp [State.staging_releaseIfHeld, State.holder_releaseIfHeld_of_ne, ofGroup]

theorem State.holdsAll_iff : s.holdsAll p = true ↔ ∀ g, s.holder g = some p := by
  simp [State.holdsAll, State.holds, Fin.forall_fin_succ, and_assoc]

/-- A group that the port does not hold is not touched by the others' release. -/
theorem State.holdsAll_releaseIfHeld (g : GroupId) (partly : s.holdsAll p = false) :
    (State.releaseIfHeld p s g).holdsAll p = false := by
  rw [Bool.eq_false_iff, ne_eq, State.holdsAll_iff, Classical.not_forall] at partly ⊢
  obtain ⟨k, other⟩ := partly
  refine ⟨k, ?_⟩
  by_cases same : k = g
  · subst same
    rwa [State.releaseIfHeld_of_not_held _ _ _ other]
  · rwa [State.holder_releaseIfHeld_of_ne _ _ _ _ same]

theorem State.hubStaging_tearDownLeases : (s.tearDownLeases p).leases.hubStaging =
    if s.holdsAll p then HubStaging.empty else s.leases.hubStaging := by
  have dropped : (s.dropLeaseRequests p).holdsAll p = s.holdsAll p := by
    simp [State.holdsAll, State.holds]
  rw [State.tearDownLeases_eq]
  cases all : s.holdsAll p with
  | true =>
    have held : (s.dropLeaseRequests p).holder 0 = some p :=
      ((s.dropLeaseRequests p).holdsAll_iff p).mp (dropped.trans all) 0
    simp [State.hubStaging_releaseIfHeld, held, dropped, all]
  | false =>
    have first := State.holdsAll_releaseIfHeld _ p 0 (dropped.trans all)
    have second := State.holdsAll_releaseIfHeld _ p 1 first
    simp [State.hubStaging_releaseIfHeld, dropped, all, first, second]

end TearDownLeases

/-- What a teardown of port `p` removes (R154), up to the controller's own part and the arbiter's run. -/
@[irreducible] def State.emptied (s : State) (p : PortId) : State :=
  ((((s.removeWaiters (Waiter.isOwedTo p)).dropSchedules p).tearDownLeases p).setPortWatch p
    PortWatch.reset).setCq p []

section Emptied

variable (s : State) (p : PortId)

theorem State.tearDown_eq (next : PortController → PortController) :
    s.tearDown p next = ((s.emptied p).setPort p (next ((s.emptied p).port p))).runArbiter := by
  rw [State.emptied]
  rfl

theorem State.ports_emptied : (s.emptied p).ports = s.ports := by
  simp [State.emptied]

theorem State.group_before_leases (g : GroupId) :
    ((s.removeWaiters (Waiter.isOwedTo p)).dropSchedules p).group g = s.group g := by
  simp [State.group]

theorem State.holder_before_leases (g : GroupId) :
    ((s.removeWaiters (Waiter.isOwedTo p)).dropSchedules p).holder g = s.holder g := by
  rw [State.holder, State.group_before_leases, State.holder]

theorem State.cq_emptied : (s.emptied p).cq p = [] := by
  rw [State.emptied, State.cq_setCq]

theorem State.portWatch_emptied : (s.emptied p).portWatch p = PortWatch.reset := by
  rw [State.emptied, State.portWatch, State.setCq_watch]
  exact State.portWatch_setPortWatch ..

theorem State.group_emptied (g : GroupId) : (s.emptied p).group g =
    if s.holder g = some p then GroupLease.passed s.hubTime (s.othersFor p g)
    else { s.group g with waiting := s.othersFor p g } := by
  have leases : (s.emptied p).leases =
      (((s.removeWaiters (Waiter.isOwedTo p)).dropSchedules p).tearDownLeases p).leases := by
    simp [State.emptied]
  rw [State.group, leases, ← State.group, State.group_tearDownLeases]
  simp [State.group_before_leases, State.holder_before_leases, State.othersFor]

theorem State.entries_emptied : (s.emptied p).entries =
    (s.entries.map (Entry.without (Waiter.isOwedTo p))).filter fun e => !e.waiters.isEmpty := by
  have queue : (s.emptied p).queue = (s.removeWaiters (Waiter.isOwedTo p)).queue := by
    simp [State.emptied]
  rw [State.entries, queue]
  exact State.entries_removeWaiters ..

theorem State.schedule_emptied (i : ScheduleId) :
    (s.emptied p).schedule i = (s.schedule i).filter fun x => decide (x.owner ≠ p) := by
  have schedules : (s.emptied p).schedules =
      s.schedules.map fun c => c.filter fun x => decide (x.owner ≠ p) := by
    simp [State.emptied, State.dropSchedules]
  rw [State.schedule, schedules]
  exact Table.read_map ..

/-- The lease is with another port, or the group is FREE. -/
theorem GroupLease.holder_passed_ne {now : Time} {l : List LeaseRequest}
    (others : ∀ q ∈ l, q.port ≠ p) : (GroupLease.passed now l).lease.holder ≠ some p := by
  cases l with
  | nil => exact nofun
  | cons q rest => exact fun same => others q List.mem_cons_self (Option.some.inj same)

theorem GroupLease.waiting_passed_sublist {now : Time} {l : List LeaseRequest} :
    (GroupLease.passed now l).waiting.Sublist l := by
  cases l with
  | nil => exact List.Sublist.refl _
  | cons q rest => exact List.sublist_cons_self ..

theorem State.mem_othersFor {g : GroupId} {q : LeaseRequest} (h : q ∈ s.othersFor p g) : q.port ≠ p := by
  simpa using (List.mem_filter.mp h).2

/-- R93, R82, R119, R133: nothing is left of the port in any block. -/
theorem State.holdsNothing_emptied : (s.emptied p).HoldsNothing p where
  credits := by
    refine State.holdings_eq_zero_iff.mpr ⟨s.cq_emptied p, ?waiters, ?requests⟩
    case waiters =>
      intro e he w hw
      rw [State.entries_emptied] at he
      obtain ⟨f, -, rfl⟩ := List.mem_map.mp (List.mem_filter.mp he).1
      simpa [Waiter.isOwedTo] using (List.mem_filter.mp hw).2
    case requests =>
      intro g q hq
      rw [State.group_emptied] at hq
      split at hq
      next => exact s.mem_othersFor p (GroupLease.waiting_passed_sublist.subset hq)
      next => exact s.mem_othersFor p hq
  schedules := by
    intro i x found
    rw [State.schedule_emptied, Option.filter_eq_some_iff] at found
    simpa using found.2
  watches := s.portWatch_emptied p
  groups := by
    intro g
    rw [State.holder, State.group_emptied]
    split
    next => exact GroupLease.holder_passed_ne p fun q => s.mem_othersFor p
    next other => exact other

end Emptied

/-! ## The teardown -/

section TearDown

variable (s : State) (p : PortId) (next : PortController → PortController)

/-- A controller is no part of what R93 counts. -/
theorem State.HoldsNothing.setPort {s : State} {q : PortId} (h : s.HoldsNothing q) (p : PortId)
    (c : PortController) : (s.setPort p c).HoldsNothing q :=
  ⟨h.credits, h.schedules, h.watches, h.groups⟩

theorem State.holdsNothing_tearDown : (s.tearDown p next).HoldsNothing p := by
  rw [State.tearDown_eq]
  exact ((s.holdsNothing_emptied p).setPort p _).runArbiter

theorem State.extends_tearDown : (s.emptied p).Extends (s.tearDown p next) := by
  rw [State.tearDown_eq]
  obtain ⟨records, schedules⟩ :=
    State.extends_runArbiter ((s.emptied p).setPort p (next ((s.emptied p).port p)))
  exact ⟨records, schedules⟩

theorem State.port_tearDown : (s.tearDown p next).port p = next (s.port p) := by
  have ports := s.ports_emptied p
  rw [State.tearDown_eq, State.port, State.runArbiter_ports]
  refine (State.port_setPort ..).trans ?_
  rw [State.port, ports, State.port]

theorem State.port_tearDown_of_ne {q : PortId} (other : q ≠ p) :
    (s.tearDown p next).port q = s.port q := by
  have ports := s.ports_emptied p
  rw [State.tearDown_eq, State.port, State.runArbiter_ports]
  refine (State.port_setPort_of_ne _ _ other).trans ?_
  rw [State.port, ports, State.port]

end TearDown

/-! ## The other blocks before the arbiter's run -/

/-- R62: the engine is stopped when the IN_FLIGHT entry loses its last waiter. -/
theorem State.engine_removeWaiters (s : State) (gone : Waiter → Bool) :
    (s.removeWaiters gone).engine =
      if losesInFlight gone s.entries then { s.engine with conversion := none, edgeCounter := 0 }
      else s.engine := by
  unfold State.removeWaiters
  dsimp only
  split <;> rfl

theorem State.selection_removeWaiters (s : State) (gone : Waiter → Bool) :
    (s.removeWaiters gone).selection =
      if losesInFlight gone s.entries then .none else s.selection := by
  unfold State.removeWaiters
  dsimp only
  split <;> rfl

theorem State.arrivals_removeWaiters (s : State) (gone : Waiter → Bool) :
    (s.removeWaiters gone).queue.arrivals = s.queue.arrivals := by
  unfold State.removeWaiters
  dsimp only
  split <;> rfl

theorem losesInFlight_iff {gone : Waiter → Bool} {entries : List Entry} :
    losesInFlight gone entries = true ↔
      ∃ f ∈ entries, f.state = .inFlight ∧ (f.without gone).waiters = [] := by
  simp [losesInFlight]

theorem Entry.without_isOwedTo (p : PortId) (e : Entry) : e.without (Waiter.isOwedTo p) =
    { e with waiters := e.waiters.filter fun w => decide (w.port ≠ p) } := by
  simp [Entry.without, Waiter.isOwedTo]

section EmptiedBlocks

variable (s : State) (p : PortId)

theorem State.cq_emptied_of_ne {q : PortId} (other : q ≠ p) : (s.emptied p).cq q = s.cq q ++
    (everyIndex 3).flatMap fun g =>
      if s.holder g = some p then grantRecords s.hubTime g q (s.othersFor p g) else [] := by
  have queue : ((s.removeWaiters (Waiter.isOwedTo p)).dropSchedules p).cq q = s.cq q := by
    simp [State.cq]
  rw [State.emptied, State.cq_setCq_of_ne _ _ other, State.cq, State.setPortWatch_completions,
    ← State.cq, State.cq_tearDownLeases, queue]
  simp [State.holder_before_leases, State.othersFor, State.group_before_leases]

theorem State.portWatch_emptied_of_ne {q : PortId} (other : q ≠ p) : (s.emptied p).portWatch q =
    (everyIndex 3).foldl (fun w g =>
      if s.holder g = some p then w.askedBy s.hubTime g q (s.othersFor p g) else w)
      (s.portWatch q) := by
  have watch : ((s.removeWaiters (Waiter.isOwedTo p)).dropSchedules p).portWatch q = s.portWatch q := by
    simp [State.portWatch]
  rw [State.emptied, State.portWatch, State.setCq_watch, ← State.portWatch,
    State.portWatch_setPortWatch_of_ne _ _ other, State.portWatch_tearDownLeases, watch]
  simp [State.holder_before_leases, State.othersFor, State.group_before_leases]

theorem State.leases_emptied : (s.emptied p).leases =
    (((s.removeWaiters (Waiter.isOwedTo p)).dropSchedules p).tearDownLeases p).leases := by
  simp [State.emptied]

theorem State.staging_emptied (c : ChannelId) : (s.emptied p).leases.staging.read c =
    if s.holder (groupOf c) = some p then none else s.leases.staging.read c := by
  rw [State.leases_emptied, State.staging_tearDownLeases, State.holder_before_leases]
  simp

theorem State.hubStaging_emptied : (s.emptied p).leases.hubStaging =
    if s.holdsAll p then HubStaging.empty else s.leases.hubStaging := by
  have all : ((s.removeWaiters (Waiter.isOwedTo p)).dropSchedules p).holdsAll p = s.holdsAll p := by
    simp [State.holdsAll, State.holds, State.holder_before_leases]
  rw [State.leases_emptied, State.hubStaging_tearDownLeases, all]
  simp

theorem State.engine_emptied :
    (s.emptied p).engine = (s.removeWaiters (Waiter.isOwedTo p)).engine := by
  simp [State.emptied]

theorem State.selection_emptied :
    (s.emptied p).selection = (s.removeWaiters (Waiter.isOwedTo p)).selection := by
  simp [State.emptied]

theorem State.arrivals_emptied : (s.emptied p).queue.arrivals = s.queue.arrivals := by
  rw [← State.arrivals_removeWaiters s (Waiter.isOwedTo p)]
  simp [State.emptied]

theorem State.frame_emptied : (s.emptied p).results = s.results ∧ (s.emptied p).config = s.config ∧
    (s.emptied p).hubTime = s.hubTime := by
  simp [State.emptied]

end EmptiedBlocks

/-- Settles O5: the port holds nothing once its blocks are emptied, and the arbiter's run delivers to other
ports alone; then the emptied blocks, one by one. -/
theorem teardownLeavesNothing : Obligations.TeardownLeavesNothing := by
  intro s p next t
  have nothing : t.HoldsNothing p := s.holdsNothing_tearDown p next
  have run : (s.emptied p).Extends t := s.extends_tearDown p next
  refine ⟨nothing, nothing.freeCredits, nothing.tagInUse, nothing.atnAsserted, s.port_tearDown p next,
    fun q other => s.port_tearDown_of_ne p next other, s.tearDown_config .., s.tearDown_hubTime ..,
    s.tearDown_inReset .., s.tearDown_pending .., ?records, ?schedules, ?blocks⟩
  case records =>
    intro q other
    have before : s.cq q <+: (s.emptied p).cq q := ⟨_, (s.cq_emptied_of_ne p other).symm⟩
    exact before.trans (run.records q)
  case schedules =>
    intro i x found owner
    obtain ⟨n, kept⟩ := run.schedules i
    have before : (s.emptied p).schedule i = some x := by
      rw [State.schedule_emptied, found, Option.filter_some_pos (by simpa using owner)]
    exact ⟨n x, kept.trans (congrArg (Option.map _) before)⟩
  case blocks =>
    intro left lost others expiry passed granted asked
    have lostIff : losesInFlight (Waiter.isOwedTo p) s.entries = true ↔ lost := by
      simp only [losesInFlight_iff, Entry.without_isOwedTo, lost, left]
    refine ⟨(s.emptied p).setPort p (next ((s.emptied p).port p)), s.tearDown_eq p next, ?entries,
      s.arrivals_emptied p, fun isLost => ?aborts, fun notLost => ?runs, s.schedule_emptied p, ?groups,
      s.staging_emptied p, fun all => ?discarded, fun partly => ?kept, fun q other => ?records,
      fun q other => ?notices, s.cq_emptied p, s.portWatch_emptied p, s.frame_emptied p⟩
    case entries =>
      have same : Entry.without (Waiter.isOwedTo p) = left := funext (Entry.without_isOwedTo p)
      exact same ▸ s.entries_emptied p
    case aborts =>
      rw [State.setPort_engine, State.setPort_selection, State.engine_emptied, State.selection_emptied,
        State.engine_removeWaiters, State.selection_removeWaiters, lostIff.mpr isLost]
      exact ⟨rfl, rfl⟩
    case runs =>
      rw [State.setPort_engine, State.setPort_selection, State.engine_emptied, State.selection_emptied,
        State.engine_removeWaiters, State.selection_removeWaiters,
        Bool.eq_false_iff.mpr (mt lostIff.mp notLost)]
      exact ⟨rfl, rfl⟩
    case groups =>
      intro g
      have same : GroupLease.passed s.hubTime (s.othersFor p g) = passed g := by
        change GroupLease.passed s.hubTime (others g) = passed g
        simp only [passed]
        cases others g <;> rfl
      rw [← same]
      exact s.group_emptied p g
    case discarded =>
      rw [State.setPort_leases, State.hubStaging_emptied, all]
      rfl
    case kept =>
      rw [State.setPort_leases, State.hubStaging_emptied, partly]
      rfl
    case records =>
      refine (s.cq_emptied_of_ne p other).trans (congrArg _ (congrArg (List.flatMap · _) (funext fun g => ?_)))
      change (if s.holder g = some p then grantRecords s.hubTime g q (others g) else []) = granted q g
      simp only [granted]
      cases others g with
      | nil => simp [grantRecords]
      | cons x rest => by_cases held : s.holder g = some p <;> simp [grantRecords, held, expiry, msToUs]
    case notices =>
      refine (s.portWatch_emptied_of_ne p other).trans
        (congrArg (List.foldl · _ _) (funext fun w => funext fun g => ?_))
      change (if s.holder g = some p then w.askedBy s.hubTime g q (others g) else w) = asked q w g
      simp only [asked]
      match others g with
      | [] => simp [PortWatch.askedBy]
      | [x] => simp [PortWatch.askedBy]
      | x :: y :: rest => by_cases held : s.holder g = some p <;> simp [PortWatch.askedBy, held]

end Sys2Proof.Machine
end

section
/-!
PROOF. What a step can do, said once. `State.Adjusts` lists the changes after which the arbiter does not run,
`State.Disturbs` those after which it does; every step is a chain of adjustments and of disturbances that end
with the arbiter's run (`step_leads`). A property that every step keeps is shown for each change of the lists,
with the guard under which the machine makes it.
-/
namespace Sys2Proof.Machine

/-! ## Chains of changes -/

/-- Changes of one kind, one after the other: the reflexive and transitive closure (core Lean has none). -/
inductive State.Chain (Change : State → State → Prop) (s : State) : State → Prop
  | refl : Chain Change s s
  | tail {t u : State} (chain : Chain Change s t) (last : Change t u) : Chain Change s u

section Chaining

variable {Change : State → State → Prop} {s t u : State}

theorem State.Chain.single (change : Change s t) : State.Chain Change s t := .tail .refl change

theorem State.Chain.trans (first : State.Chain Change s t) (second : State.Chain Change t u) :
    State.Chain Change s u := by
  induction second with
  | refl => exact first
  | tail _ last ih => exact ih.tail last

/-- What every change keeps, a chain of them keeps. -/
theorem State.Chain.keeps {P : State → Prop} (each : ∀ {s t : State}, P s → Change s t → P t)
    (chain : State.Chain Change s t) (h : P s) : P t := by
  induction chain with
  | refl => exact h
  | tail _ last ih => exact each ih last

end Chaining

/-! ## The changes -/

/-- The port is ATTACHED, or some block holds something for it; then it is ATTACHED too where the accounts are
sound (R93). -/
def State.Engaged (s : State) (p : PortId) : Prop := s.isAttached p = true ∨ ¬s.HoldsNothing p

/-- A change after which the arbiter does not run: no entry becomes dispatchable by it while the engine is
IDLE. -/
inductive State.Adjusts (s : State) : State → Prop
  | pending (l : List Instr) : Adjusts s (s.setPending l)
  /-- A port leaves ATTACHED only when no block holds anything for it (R154). -/
  | controller (p : PortId) (c : PortController)
      (empty : c.state.isAttached = false → s.isAttached p = true → s.HoldsNothing p) :
      Adjusts s (s.setPort p c)
  | rise : Adjusts s (s.resetBlocks false)
  | tick : Adjusts s (s.setHubTime (s.hubTime + 1))
  | health (r : RefId) (x : RefHealth) : Adjusts s (s.setHealth r x)
  /-- The conversion in flight moves to another phase (R27 to R36). -/
  | phase {c c' : Conversion} (x : Selection) (e : Engine) (conv : s.engine.conversion = some c)
      (moved : e.conversion = some c') (key : c'.key = c.key)
      (selected : s.SelectionSound → x = e.selected) : Adjusts s ((s.setSelection x).setEngine e)
  | aging (position : Fin 24) : Adjusts s (s.agingCapExpires position)
  | schedule (i : ScheduleId) (x : Schedule) (owner : s.Engaged x.owner) :
      Adjusts s (s.setSchedule i (some x))
  | freePlace (i : ScheduleId) : Adjusts s (s.setSchedule i none)
  | dropSchedules (p : PortId) : Adjusts s (s.dropSchedules p)
  | watch (p : PortId) (w : PortWatch) (engaged : w = PortWatch.reset ∨ s.Engaged p)
      (sound : (s.portWatch p).Sound → w.Sound) : Adjusts s (s.setPortWatch p w)
  | records (p : PortId) (l : List Completion) (left : l.Sublist (s.cq p)) : Adjusts s (s.setCq p l)
  | withdraw (g : GroupId) (keep : LeaseRequest → Bool) :
      Adjusts s (s.setGroup g { s.group g with waiting := (s.group g).waiting.filter keep })
  | grant (p : PortId) (g : GroupId) (kind : LeaseKind) (termMs : Word) (attached : s.isAttached p = true)
      (free : (s.group g).lease = .free) : Adjusts s (s.grant p g kind termMs)
  | queueLease (h : PortId) (g : GroupId) (q : LeaseRequest) (attached : s.isAttached q.port = true)
      (held : s.holder g = some h) (other : h ≠ q.port)
      (fresh : ∀ x ∈ (s.group g).waiting, x.port ≠ q.port) (tag : s.tagInUse q.port q.tag = false)
      (credit : s.freeCredits q.port ≠ 0) : Adjusts s (s.queueLease h g q)
  | stage (c : ChannelId) (x : Option StagedChannel) (held : (s.holder (groupOf c)).isSome = true) :
      Adjusts s (s.setStaging (s.leases.staging.write c x))
  | stageHub (p : PortId) (h : HubStaging) (held : s.holdsAll p = true) : Adjusts s (s.setHubStaging h)

/-- R42 and R66 up to the arbiter's run: the engine is stopped, the outcome published, the entry completed. -/
def State.concluded (s : State) (c : Conversion) (o : Outcome) : State :=
  match s.stopEngine.inFlightEntry with
  | some e => s.stopEngine.completeEntry e o
  | none => (s.stopEngine.publish c.channel o).evaluateWatches c.channel o

theorem State.finish_eq (s : State) (c : Conversion) (o : Outcome) :
    s.finish c o = (s.concluded c o).runArbiter := by
  unfold State.finish State.concluded
  dsimp only
  cases s.stopEngine.inFlightEntry <;> rfl

/-- A change after which the arbiter runs (R58, R131). -/
inductive State.Disturbs (s : State) : State → Prop
  | adjusts {t : State} (quiet : s.Adjusts t) : Disturbs s t
  | enqueue (c : ChannelId) (gate : GateSource) (w : Waiter) (room : s.queueFullFor c gate = false)
      (engaged : s.Engaged w.port) (credit : s.freeCredits w.port ≠ 0)
      (tag : ∀ tag, w.origin = .direct tag → s.tagInUse w.port tag = false) :
      Disturbs s (s.enqueue c gate w)
  | removeWaiters (gone : Waiter → Bool) : Disturbs s (s.removeWaiters gone)
  | renew (p : PortId) (g : GroupId) (kind : LeaseKind) (termMs : Word) (held : s.holds p g = true)
      (uncontended : (s.group g).waiting = []) : Disturbs s (s.grant p g kind termMs)
  | release (p : PortId) (g : GroupId) (held : s.holds p g = true) : Disturbs s (s.releaseGroup p g)
  | conclude (c : Conversion) (o : Outcome) (conv : s.engine.conversion = some c) :
      Disturbs s (s.concluded c o)
  | applyCommit (scope : CommitScope) (valid : (s.tableAfter scope).valid = true) :
      Disturbs s (s.applyCommit scope)
  | abortInFlight : Disturbs s s.abortInFlight
  | removeDisabled : Disturbs s s.removeDisabled

/-- An adjustment, or disturbances and the arbiter's run. -/
inductive State.Acts (s : State) : State → Prop
  | quiet {t : State} (adjusted : s.Adjusts t) : Acts s t
  | arbitrated {u : State} (disturbed : State.Chain State.Disturbs s u) : Acts s u.runArbiter

/-- The changes of a step, one after the other. -/
abbrev State.Leads : State → State → Prop := State.Chain State.Acts

/-- A property that every change of the lists and every dispatch keeps. -/
structure Kept (P : State → Prop) : Prop where
  adjusts : ∀ {s t : State}, P s → s.Adjusts t → P t
  disturbs : ∀ {s t : State}, P s → s.Disturbs t → P t
  complete : ∀ {s : State} {e : Entry}, P s → s.engine.conversion = none → s.chosenEntry = some e →
    P (s.completeEntry e (s.faultedOutcome e))
  start : ∀ {s : State} {e : Entry}, P s → s.engine.conversion = none → s.chosenEntry = some e →
    P (s.startConversion e)

section Leading

variable {P : State → Prop} {s t u : State}

theorem Kept.runArbiter (kept : Kept P) (h : P s) : P s.runArbiter :=
  State.runArbiter_keeps (fun _ _ ht idle chosen _ => kept.complete ht idle chosen)
    (fun _ _ ht idle chosen _ => kept.start ht idle chosen) h

theorem Kept.leads (kept : Kept P) (h : P s) (leads : s.Leads t) : P t := by
  refine leads.keeps (fun hs act => ?_) h
  cases act with
  | quiet adjusted => exact kept.adjusts hs adjusted
  | arbitrated disturbed => exact kept.runArbiter (disturbed.keeps kept.disturbs hs)

theorem State.Adjusts.leads (adjusted : s.Adjusts t) : s.Leads t := .single (.quiet adjusted)

theorem State.Disturbs.leads (disturbed : s.Disturbs t) : s.Leads t.runArbiter :=
  .single (.arbitrated (.single disturbed))

/-- Two disturbances and the arbiter's run. -/
theorem State.Disturbs.leads_twice (first : s.Disturbs t) (second : t.Disturbs u) :
    s.Leads u.runArbiter :=
  .single (.arbitrated (.tail (.single first) second))

end Leading

theorem PortWatch.sound_reset : PortWatch.reset.Sound where
  sources := List.nodup_nil
  ordered := List.Pairwise.nil
  generations := nofun
  changes := nofun

/-! ## The port controllers -/

section Controllers

variable {s : State} (p : PortId)

/-- A change of a controller that leaves the attachment as it was. -/
theorem State.Adjusts.of_isAttached {c : PortController}
    (same : c.state.isAttached = (s.port p).state.isAttached) : s.Adjusts (s.setPort p c) :=
  .controller p c fun detached attached => by
    rw [same] at detached
    exact absurd attached (by rw [State.isAttached, detached]; decide)

/-- A port that is not ATTACHED takes any controller. -/
theorem State.Adjusts.of_unattached {c : PortController} (unattached : s.isAttached p = false) :
    s.Adjusts (s.setPort p c) :=
  .controller p c fun _ attached => absurd attached (by rw [unattached]; decide)

theorem State.leads_controller {c : PortController}
    (same : c.state.isAttached = (s.port p).state.isAttached) : s.Leads (s.setPort p c) :=
  (State.Adjusts.of_isAttached p same).leads

theorem State.leads_unattached {c : PortController} (unattached : s.isAttached p = false) :
    s.Leads (s.setPort p c) :=
  (State.Adjusts.of_unattached p unattached).leads

theorem State.leads_closeTransaction : s.Leads (s.closeTransaction p) :=
  State.leads_controller p rfl

theorem State.leads_goodFrame : s.Leads (s.goodFrame p) :=
  State.leads_controller p (restartedSilence_isAttached _ _)

theorem State.leads_delivered (t : Transaction) : s.Leads (s.delivered p t) :=
  State.leads_controller p rfl

theorem State.leads_hold (r : Response) : s.Leads (s.hold p r) :=
  State.leads_controller p rfl

theorem State.leads_countLinkError : s.Leads (s.countLinkError p) :=
  State.leads_controller p rfl

theorem State.leads_beginTransaction : s.Leads (s.beginTransaction p) := by
  unfold State.beginTransaction
  dsimp only
  split
  next ignored => exact .refl
  next => exact State.leads_controller p rfl

theorem State.leads_readyExpires : s.Leads (s.readyExpires p) := by
  unfold State.readyExpires
  split
  next =>
    split
    next due => exact State.leads_controller p rfl
    next => exact .refl
  all_goals exact .refl

theorem State.isAttached_eq {x : PortState} (state : (s.port p).state = x) :
    s.isAttached p = x.isAttached := by
  rw [State.isAttached, state]

theorem State.leads_bindWindowExpires : s.Leads (s.bindWindowExpires p) := by
  unfold State.bindWindowExpires
  split
  next binding =>
    split
    next due => exact State.leads_unattached p (State.isAttached_eq p binding)
    next => exact .refl
  all_goals exact .refl

theorem State.leads_releasePortReset : s.Leads (s.releasePortReset p) := by
  unfold State.releasePortReset
  split
  next offline => exact State.leads_unattached p (State.isAttached_eq p offline)
  next => exact .refl

theorem State.leads_endBad : s.Leads (s.endBad p) := by
  unfold State.endBad
  split
  next => exact .refl
  next t _ =>
    have closed := State.leads_closeTransaction (s := s) p
    have answered : s.Leads (((s.closeTransaction p).delivered p t).answerLinkError p) :=
      ((closed.trans (State.leads_delivered p t)).trans (State.leads_countLinkError p)).trans
        (State.leads_hold p _)
    have counted := closed.trans (State.leads_countLinkError p)
    dsimp only
    split
    · exact answered
    · exact answered
    · exact counted.trans (State.leads_controller p rfl)
    · exact counted

theorem State.leads_endShort : s.Leads (s.endShort p) := by
  unfold State.endShort
  split
  next => exact .refl
  next =>
    exact ((State.leads_closeTransaction p).trans (State.leads_countLinkError p)).trans
      (State.leads_controller p rfl)

/-- R171: the response and the repeat record; the rest is the command's. -/
theorem State.leads_execute {command : State → Reply} (run : s.Leads (command s).state)
    (tag crc : Half) : s.Leads (s.execute p tag crc command) :=
  (run.trans (State.leads_hold p _)).trans (State.leads_controller p rfl)

theorem State.leads_handleGood {command : State → Reply} (run : s.Leads (command s).state)
    (tag crc : Half) : s.Leads (s.handleGood p tag crc command) := by
  unfold State.handleGood
  split
  next => exact State.leads_hold p _
  next => exact State.leads_execute p run tag crc

theorem State.leads_endGood {command : State → Reply} (run : ∀ t : State, t.Leads (command t).state)
    (tag crc : Half) : s.Leads (s.endGood p tag crc command) := by
  unfold State.endGood
  split
  next => exact .refl
  next t _ =>
    have closed : s.Leads ((s.closeTransaction p).goodFrame p) :=
      (State.leads_closeTransaction p).trans (State.leads_goodFrame p)
    have handled := (closed.trans (State.leads_delivered p t)).trans
      (State.leads_handleGood p (run _) tag crc)
    dsimp only
    split
    · exact handled
    · exact handled
    · exact closed.trans (State.leads_controller p rfl)
    · exact closed

end Controllers

/-! ## The engine (R27 to R36) -/

section Phases

variable {s : State} {c : Conversion}

/-- The conversion moves to a phase that selects the same network. -/
theorem State.leads_phase {c' : Conversion} {e : Engine} (conv : s.engine.conversion = some c)
    (moved : e.conversion = some c') (key : c'.key = c.key)
    (selected : e.selected = s.engine.selected) : s.Leads (s.setEngine e) :=
  (State.Adjusts.phase s.selection e conv moved key fun sound => sound.trans selected.symm).leads

theorem State.leads_openGate (conv : s.engine.conversion = some c) (bound : Time) :
    s.Leads (s.openGate c bound) :=
  State.leads_phase (c' := { c with phase := .count s.hubTime (s.hubTime + Config.stallLimit) bound }) conv
    rfl rfl (by rw [Engine.selected, Engine.selected, conv])

theorem State.leads_endSettle (conv : s.engine.conversion = some c) : s.Leads (s.endSettle c) := by
  unfold State.endSettle
  split
  next => exact State.leads_openGate conv _
  next =>
    exact State.leads_phase (e := { s.engine with conversion := some { c with phase := _ } }) conv rfl rfl
      (by rw [Engine.selected, Engine.selected, conv])

theorem State.leads_enterSettleSens (conv : s.engine.conversion = some c) (m : Measured) :
    s.Leads (s.enterSettleSens c m) :=
  (State.Adjusts.phase (.sensor c.channel) (s.enterSettleSens c m).engine conv rfl rfl fun _ => rfl).leads

theorem State.leads_finish (conv : s.engine.conversion = some c) (o : Outcome) :
    s.Leads (s.finish c o) := by
  rw [State.finish_eq]
  exact (State.Disturbs.conclude c o conv).leads

theorem State.leads_judgeReference (conv : s.engine.conversion = some c) (how : PhaseEnd)
    (m : Measured) : s.Leads (s.judgeReference c how m) := by
  unfold State.judgeReference
  split
  next good =>
    split
    next =>
      have filled : s.Leads (s.fillCache c.reference m.count (s.channel c.channel).settings.gateLength) :=
        (State.Adjusts.health c.reference _).leads
      exact filled.trans (State.leads_enterSettleSens (s := s.fillCache _ _ _) conv m)
    next => exact State.leads_enterSettleSens conv m
  next bad =>
    have recorded : s.Leads (s.recordFault c.reference) := (State.Adjusts.health c.reference _).leads
    exact recorded.trans (State.leads_finish (s := s.recordFault _) conv _)

theorem State.leads_endCount (conv : s.engine.conversion = some c) (how : PhaseEnd) (m : Measured) :
    s.Leads (s.endCount c how m) := by
  unfold State.endCount
  split
  next => exact State.leads_judgeReference conv how m
  next => exact State.leads_finish conv _

theorem State.leads_oscillatorEdge (s : State) : s.Leads s.oscillatorEdge := by
  unfold State.oscillatorEdge
  split
  next c conv =>
    split
    next =>
      split
      next full => exact State.leads_endCount conv _ _
      next room =>
        exact State.leads_phase
          (e := { s.engine with edgeCounter := _, conversion := some { c with phase := _ } }) conv rfl rfl
          (by rw [Engine.selected, Engine.selected, conv])
    next => exact .refl
    next => exact .refl
  next => exact .refl

theorem State.leads_gateEdge (s : State) : s.Leads s.gateEdge := by
  unfold State.gateEdge
  split
  next c conv =>
    split
    next => exact State.leads_openGate conv _
    next =>
      split
      next closes => exact State.leads_endCount conv _ _
      next => exact .refl
    next => exact .refl
  next => exact .refl

theorem State.leads_settleExpiry (s : State) : s.Leads s.settleExpiry := by
  unfold State.settleExpiry
  split
  next c conv =>
    split
    next =>
      split
      next due => exact State.leads_endSettle conv
      next => exact .refl
    next => exact .refl
    next => exact .refl
  next => exact .refl

theorem State.leads_gateExpiry (s : State) : s.Leads s.gateExpiry := by
  unfold State.gateExpiry
  split
  next c conv =>
    split
    next =>
      split
      next due => exact State.leads_endCount conv _ _
      next => exact .refl
    next => exact .refl
    next => exact .refl
  next => exact .refl

theorem State.leads_stallExpiry (s : State) : s.Leads s.stallExpiry := by
  unfold State.stallExpiry
  split
  next c conv =>
    split
    next =>
      split
      next due => exact State.leads_endCount conv _ _
      next => exact .refl
    next => exact .refl
    next => exact .refl
  next => exact .refl

theorem State.leads_pairExpiry (s : State) : s.Leads s.pairExpiry := by
  unfold State.pairExpiry
  split
  next c conv =>
    split
    next =>
      split
      next due => exact State.leads_finish conv _
      next => exact .refl
    next =>
      split
      next due => exact State.leads_finish conv _
      next => exact .refl
    next => exact .refl
  next => exact .refl

end Phases

/-! ## Teardowns (R154) -/

section Teardown

variable {s t : State} (p : PortId)

/-- The removals of a teardown, one after the other. -/
theorem State.disturbs_emptied : State.Chain State.Disturbs s (s.emptied p) := by
  have queue : State.Chain State.Disturbs s
      ((s.removeWaiters (Waiter.isOwedTo p)).dropSchedules p) :=
    (State.Chain.single (.removeWaiters _)).tail (.adjusts (.dropSchedules p))
  have leases : State.Chain State.Disturbs s
      (((s.removeWaiters (Waiter.isOwedTo p)).dropSchedules p).tearDownLeases p) :=
    State.tearDownLeases_keeps (P := fun t => State.Chain State.Disturbs s t)
      (fun _ g chain => chain.tail (.adjusts (.withdraw g _)))
      (fun _ g chain held => chain.tail (.release p g held)) queue
  rw [State.emptied]
  exact (leases.tail (.adjusts (.watch p _ (.inl rfl) fun _ => PortWatch.sound_reset))).tail
    (.adjusts (.records p [] (List.nil_sublist _)))

/-- The controller's part comes last, when no block holds anything for the port. -/
theorem State.leads_tearDown (next : PortController → PortController) : s.Leads (s.tearDown p next) := by
  rw [State.tearDown_eq]
  exact .single (.arbitrated ((State.disturbs_emptied p).tail
    (.adjusts (.controller p _ fun _ _ => s.holdsNothing_emptied p))))

theorem State.leads_silenceExpires : s.Leads (s.silenceExpires p) := by
  unfold State.silenceExpires
  split
  next =>
    split
    next due => exact State.leads_tearDown p _
    next => exact .refl
  all_goals exact .refl

/-- R146 out of hub reset. -/
theorem State.leads_assertPortReset (running : s.inReset = false) : s.Leads (s.assertPortReset p) := by
  unfold State.assertPortReset
  rw [if_neg (by rw [running]; decide)]
  split
  next => exact State.leads_tearDown p _
  next binding => exact State.leads_unattached p (State.isAttached_eq p binding)
  next linked => exact State.leads_unattached p (State.isAttached_eq p linked)
  next => exact .refl

end Teardown

end Sys2Proof.Machine
end

section
/-!
PROOF. What a step can do, continued: the lease unit, the schedules and COMMIT, the answers to the commands of
R180, and the step (`step_leads`).
-/
namespace Sys2Proof.Machine

/-! ## Who is served -/

section Engaged

variable {s : State} {p : PortId}

theorem State.Engaged.of_attached (h : s.isAttached p = true) : s.Engaged p := .inl h

/-- The owner of a schedule (R82). -/
theorem State.Engaged.of_owner {i : ScheduleId} {x : Schedule} (h : s.schedule i = some x) :
    s.Engaged x.owner :=
  .inr fun nothing => nothing.schedules i x h rfl

/-- The holder of a group (R133). -/
theorem State.Engaged.of_holder {g : GroupId} (h : s.holder g = some p) : s.Engaged p :=
  .inr fun nothing => nothing.groups g h

theorem State.holds_iff {g : GroupId} : s.holds p g = true ↔ s.holder g = some p :=
  decide_eq_true_iff

end Engaged

/-! ## Notice lists (R108, R110 to R113) -/

section Notices

variable {w : PortWatch}

theorem PortWatch.Sound.setSlot (h : w.Sound) (i : SlotId) (x : Option Watch) :
    (w.setSlot i x).Sound :=
  ⟨h.sources, h.ordered, h.generations, h.changes⟩

theorem PortWatch.Sound.dropNotice (h : w.Sound) (source : NoticeSource) :
    (w.dropNotice source).Sound where
  sources := h.sources.sublist (List.filter_sublist.map _)
  ordered := h.ordered.filter _
  generations := fun n hn => h.generations n (List.mem_filter.mp hn).1
  changes := fun n hn => h.changes n (List.mem_filter.mp hn).1

theorem mem_noticesOf {source : NoticeSource} {l : List Notice} {n : Notice} :
    n ∈ noticesOf source l ↔ n ∈ l ∧ n.source = source := by
  simp [noticesOf]

theorem PortWatch.Sound.raise (h : w.Sound) (raised : NoticeContent) (priority : Priority) (now : Time) :
    (w.raise raised priority now).Sound := by
  by_cases fresh : noticesOf raised.source w.notices = []
  · have created := w.notices_raise_of_fresh raised priority now fresh
    obtain ⟨before, after, split, inserted, above, below⟩ := insertNotice_split
      { content := raised, changes := 1, generation := w.generations.read raised.source.index + 1,
        firstRaised := now, priority := priority } w.notices
    have other : ∀ n ∈ w.notices, n.source ≠ raised.source := fun n hn same =>
      List.ne_nil_of_mem (mem_noticesOf.mpr ⟨hn, same⟩) fresh
    refine ⟨?sources, ?ordered, ?generations, ?changes⟩
    case sources =>
      rw [created, inserted, List.map_append, List.map_cons, List.perm_middle.nodup_iff, ← List.map_append,
        ← split, List.nodup_cons]
      refine ⟨fun mem => ?_, h.sources⟩
      obtain ⟨n, hn, same⟩ := List.mem_map.mp mem
      exact other n hn same
    case ordered =>
      have sorted := h.ordered
      rw [created, inserted]
      have lower := below sorted
      rw [split, List.pairwise_append] at sorted
      obtain ⟨ordBefore, ordAfter, across⟩ := sorted
      refine List.pairwise_append.mpr ⟨ordBefore, List.pairwise_cons.mpr
        ⟨fun n hn => Nat.le_of_lt (lower n hn), ordAfter⟩, fun m hm n hn => ?_⟩
      rcases List.mem_cons.mp hn with rfl | hn
      · exact above m hm
      · exact across m hm n hn
    case generations =>
      intro n hn
      rw [created] at hn
      rw [PortWatch.generations_raise]
      rcases mem_insertNotice.mp hn with rfl | old
      · exact (Table.read_write_same ..).symm
      · have index := fun same => other n old (NoticeSource.index_injective same)
        rw [Table.read_write_of_ne _ _ index]
        exact h.generations n old
    case changes =>
      intro n hn
      rw [created] at hn
      rcases mem_insertNotice.mp hn with rfl | old
      · exact (by decide : (1 : Byte) ≠ 0)
      · exact h.changes n old
  · have updated := w.notices_raise_of_standing raised priority now fresh
    refine ⟨?sources, ?ordered, ?generations, ?changes⟩
    case sources =>
      rw [updated, List.map_map]
      exact (congrArg List.Nodup (List.map_congr_left fun n _ => source_ite_raisedBy _ _ n)).mpr h.sources
    case ordered =>
      have same (n : Notice) (generation : Half) :
          (if n.source = raised.source then n.raisedBy raised generation else n).priority = n.priority := by
        split <;> rfl
      rw [updated, List.pairwise_map]
      simp only [same]
      exact h.ordered
    case generations =>
      intro n hn
      rw [updated] at hn
      obtain ⟨m, old, rfl⟩ := List.mem_map.mp hn
      rw [source_ite_raisedBy, PortWatch.generations_raise]
      by_cases own : m.source = raised.source
      · rw [if_pos own, own, Table.read_write_same]
        rfl
      · have index := fun same => own (NoticeSource.index_injective same)
        rw [if_neg own, Table.read_write_of_ne _ _ index]
        exact h.generations m old
    case changes =>
      intro n hn
      rw [updated] at hn
      obtain ⟨m, old, rfl⟩ := List.mem_map.mp hn
      split
      · exact saturatingSucc_ne_zero _
      · exact h.changes m old

theorem PortWatch.Sound.evaluate (h : w.Sound) (c : ChannelId) (ratio : Option Word) (seq : Word)
    (now : Time) : (w.evaluate c ratio seq now).Sound :=
  PortWatch.evaluate_keeps (P := PortWatch.Sound) (fun _ i hv =>
    PortWatch.evaluateSlot_keeps hv (fun y => hv.setSlot i y)
      fun y _ _ _ => (hv.setSlot i y).raise _ _ _) h

end Notices

/-! ## Leases, schedules and COMMIT -/

section Blocks

variable {s : State}

/-- R128: REVOKED touches no lease, so the release may come after it. -/
theorem State.leaseExpires_order (p : PortId) (g : GroupId) :
    ((s.discardStaging p g).raiseGroup p g false true).passOn g =
      (s.raiseGroup p g false true).releaseGroup p g := by
  have all : (s.raiseGroup p g false true).holdsAll p = s.holdsAll p := rfl
  unfold State.releaseGroup State.discardStaging
  dsimp only
  rw [all]
  cases s.holdsAll p <;> rfl

theorem State.adjusts_raiseGroup {p : PortId} {k : GroupId} (holder : s.holder k = some p) (g : GroupId)
    (releaseRequested revoked : Bool) : s.Adjusts (s.raiseGroup p g releaseRequested revoked) :=
  .watch p _ (.inr (.of_holder holder)) fun sound => sound.raise _ _ _

theorem State.holder_of_held {g : GroupId} {p : PortId} {kind : LeaseKind} {expiry : Time}
    (held : (s.group g).lease = .held p kind expiry) : s.holder g = some p := by
  rw [State.holder, held]
  rfl

theorem State.leads_leaseExpires (g : GroupId) : s.Leads (s.leaseExpires g) := by
  unfold State.leaseExpires
  split
  next => exact .refl
  next p _ expiry held =>
    split
    next due =>
      have holder := State.holder_of_held held
      rw [State.leaseExpires_order]
      exact State.Disturbs.leads_twice (.adjusts (State.adjusts_raiseGroup holder g false true))
        (.release p g (State.holds_iff.mpr holder))
    next => exact .refl

/-- An injection passes the check on the owner's credits (R76). -/
theorem State.freeCredits_of_missFor_none {i : ScheduleId} {x : Schedule}
    (injects : s.missFor i x = none) : s.freeCredits x.owner ≠ 0 := by
  unfold State.missFor at injects
  simp only [ite_some_eq_none_iff] at injects
  exact injects.2.2.1

theorem State.leads_scheduleDue (i : ScheduleId) : s.Leads (s.scheduleDue i) := by
  unfold State.scheduleDue
  split
  next => exact .refl
  next x found =>
    have owner := State.Engaged.of_owner found
    split
    next => exact .refl
    next due _ =>
      split
      next reached =>
        dsimp only
        split
        next missed => exact State.Adjusts.leads (.schedule i _ owner)
        next injects =>
          let advanced : Schedule := { x with state := .active (due + msToUs x.periodMs) }
          have engaged : (s.setSchedule i (some advanced)).Engaged x.owner :=
            .of_owner (x := advanced) (State.schedule_setSchedule ..)
          exact State.Disturbs.leads_twice (t := s.setSchedule i (some advanced))
            (.adjusts (.schedule i _ owner))
            (.enqueue x.channel x.gate _ (State.queueFullFor_of_missFor_none injects) engaged
              (State.freeCredits_of_missFor_none injects) fun _ same => by cases same)
      next => exact .refl

theorem State.leads_commit {scope : CommitScope} (valid : (s.tableAfter scope).valid = true) :
    s.Leads (s.commit scope).state := by
  have applied : State.Chain State.Disturbs s (s.applyCommit scope) := .single (.applyCommit scope valid)
  unfold State.commit
  dsimp only
  split
  next aborts => exact .single (.arbitrated ((applied.tail .abortInFlight).tail .removeDisabled))
  next => exact .single (.arbitrated (applied.tail .removeDisabled))

end Blocks

/-! ## Answers -/

section Answers

variable {s : State} (p : PortId)

theorem State.leads_attachedOnly {r : Reply} (run : s.isAttached p = true → s.Leads r.state) :
    s.Leads (s.attachedOnly p r).state := by
  unfold State.attachedOnly
  split
  next attached => exact run attached
  next => exact .refl

theorem State.leads_helloReply (client : Word) : s.Leads (helloReply p client s).state := by
  unfold helloReply
  split
  next => exact .refl
  next linked => exact State.leads_unattached p (State.isAttached_eq p linked)
  next binding => exact State.leads_unattached p (State.isAttached_eq p binding)
  next => exact .refl

theorem State.leads_bindReply (attention : Byte) (silenceMs : Half) :
    s.Leads (bindReply p attention silenceMs s).state := by
  unfold bindReply
  split
  next binding =>
    split
    next => exact State.leads_unattached p (State.isAttached_eq p binding)
    next => exact .refl
  all_goals exact .refl

/-- What an admitted request has passed (R50). -/
theorem State.admits_of_convertRefusal_none {tag : Half} {c : ChannelId} {gate : GateSource}
    (admits : s.convertRefusal p tag c gate = none) :
    s.tagInUse p tag = false ∧ s.freeCredits p ≠ 0 := by
  unfold State.convertRefusal at admits
  simp only [ite_some_eq_none_iff] at admits
  obtain ⟨-, tagFree, credit, -⟩ := admits
  exact ⟨Bool.eq_false_iff.mpr tagFree, credit⟩

theorem State.leads_detachReply : s.Leads (detachReply p s).state := by
  unfold detachReply
  exact State.leads_attachedOnly p fun _ => State.leads_tearDown p fun c => c.detached .detach

theorem State.leads_convertReply (tag : Half) (channel gate priority : Byte) :
    s.Leads (convertReply p tag channel gate priority s).state := by
  refine State.leads_attachedOnly p fun attached => ?_
  split
  next c g n _ _ _ =>
    split
    next refused => exact .refl
    next admits =>
      obtain ⟨tagFree, credit⟩ := State.admits_of_convertRefusal_none p admits
      exact State.Disturbs.leads (.enqueue c g _ (State.queueFullFor_of_convertRefusal_none admits)
        (.of_attached attached) credit fun x same => by cases same; exact tagFree)
  next => exact .refl

theorem State.leads_cancelReply (target : Half) : s.Leads (cancelReply p target s).state := by
  refine State.leads_attachedOnly p fun _ => ?_
  split
  next => exact .refl
  next =>
    dsimp only
    split
    next => exact .refl
    next found => exact State.Disturbs.leads (.removeWaiters _)

theorem State.leads_fetchReply : s.Leads (fetchReply p s).state := by
  refine State.leads_attachedOnly p fun _ => ?_
  split
  next => exact .refl
  next r rest queue =>
    exact State.Adjusts.leads (.records p rest (queue ▸ List.sublist_cons_self r rest))

theorem State.leads_schedAddReply (channel gate priority : Byte) (periodMs : Word) :
    s.Leads (schedAddReply p channel gate priority periodMs s).state := by
  refine State.leads_attachedOnly p fun attached => ?_
  split
  next =>
    split
    next => exact .refl
    next =>
      split
      next => exact .refl
      next i _ => exact State.Adjusts.leads (.schedule i _ (.of_attached attached))
  next => exact .refl

theorem State.leads_ownSchedule (schedule : Byte) {k : ScheduleId → Schedule → Reply}
    (own : ∀ i x, s.schedule i = some x → s.Leads (k i x).state) :
    s.Leads (s.ownSchedule p schedule k).state := by
  refine State.leads_attachedOnly p fun _ => ?_
  split
  next => exact .refl
  next i _ =>
    split
    next => exact .refl
    next x found =>
      split
      next => exact own i x found
      next => exact .refl

theorem State.leads_schedDeleteReply (schedule : Byte) : s.Leads (schedDeleteReply p schedule s).state :=
  State.leads_ownSchedule p schedule fun i _ _ =>
    State.Disturbs.leads_twice (.removeWaiters (Waiter.isOfSchedule i)) (.adjusts (.freePlace i))

theorem State.leads_schedPauseReply (schedule : Byte) : s.Leads (schedPauseReply p schedule s).state := by
  refine State.leads_ownSchedule p schedule fun i x found => ?_
  have owner := State.Engaged.of_owner found
  split
  next => exact State.Adjusts.leads (.schedule i _ owner)
  next => exact .refl

theorem State.leads_schedResumeReply (schedule : Byte) :
    s.Leads (schedResumeReply p schedule s).state := by
  refine State.leads_ownSchedule p schedule fun i x found => ?_
  have owner := State.Engaged.of_owner found
  split
  next => exact State.Adjusts.leads (.schedule i _ owner)
  next => exact .refl

theorem State.leads_schedStatusReply (schedule : Byte) :
    s.Leads (schedStatusReply p schedule s).state := by
  refine State.leads_attachedOnly p fun _ => ?_
  split
  next => exact .refl
  next => split <;> exact .refl

/-- R103, R104: a slot is set or freed and its notice removed. -/
theorem State.leads_setSlot (attached : s.isAttached p = true) (i : SlotId) (x : Option Watch) :
    s.Leads (s.setPortWatch p (((s.portWatch p).setSlot i x).dropNotice (.slot i))) :=
  State.Adjusts.leads
    (.watch p _ (.inr (.of_attached attached)) fun sound => (sound.setSlot i x).dropNotice _)

theorem State.leads_watchSetReply (slot channel : Byte) (low high hyst : Word) (notify priority : Byte) :
    s.Leads (watchSetReply p slot channel low high hyst notify priority s).state := by
  refine State.leads_attachedOnly p fun attached => ?_
  split
  next i _ _ _ _ _ _ _ =>
    split
    next => exact State.leads_setSlot p attached i _
    next => exact .refl
  next => exact .refl

theorem State.leads_watchClearReply (slot : Byte) : s.Leads (watchClearReply p slot s).state := by
  refine State.leads_attachedOnly p fun attached => ?_
  split
  next => exact .refl
  next i _ =>
    dsimp only
    split
    next => exact .refl
    next => exact State.leads_setSlot p attached i none

theorem State.leads_readNoticesReply (start : Byte) : s.Leads (readNoticesReply p start s).state := by
  refine State.leads_attachedOnly p fun _ => ?_
  split <;> exact .refl

theorem State.leads_ackNoticeReply (source : Byte) (generation : Half) :
    s.Leads (ackNoticeReply p source generation s).state := by
  refine State.leads_attachedOnly p fun attached => ?_
  split
  next => exact .refl
  next src _ =>
    dsimp only
    split
    next => exact .refl
    next =>
      split
      next current =>
        exact State.Adjusts.leads
          (.watch p _ (.inr (.of_attached attached)) fun sound => sound.dropNotice src)
      next stale => exact .refl

theorem State.leads_leaseReply (tag : Half) (group kind : Byte) (termMs : Word) :
    s.Leads (leaseReply p tag group kind termMs s).state := by
  refine State.leads_attachedOnly p fun attached => ?_
  split
  next g k term _ _ _ =>
    split
    next => exact .refl
    next notHeld =>
      split
      next => exact .refl
      next fresh =>
        split
        next => exact .refl
        next tagFree =>
          split
          next free => exact State.Adjusts.leads (.grant p g k term attached free)
          next h _ _ held =>
            split
            next => exact .refl
            next credit =>
              have holder := State.holder_of_held held
              refine State.Adjusts.leads (.queueLease h g _ attached holder ?_ ?_
                (Bool.eq_false_iff.mpr tagFree) credit)
              · rintro rfl
                exact notHeld (State.holds_iff.mpr holder)
              · intro x hx same
                exact fresh (List.any_eq_true.mpr ⟨x, hx, decide_eq_true same⟩)
  next => exact .refl

theorem State.leads_withdrawReply (target : Half) : s.Leads (withdrawReply p target s).state := by
  refine State.leads_attachedOnly p fun _ => ?_
  split
  next => exact .refl
  next =>
    split
    next => exact .refl
    next g _ => exact State.Adjusts.leads (.withdraw g _)

theorem State.leads_renewReply (group kind : Byte) (termMs : Word) :
    s.Leads (renewReply p group kind termMs s).state := by
  refine State.leads_attachedOnly p fun _ => ?_
  split
  next g k term _ _ _ =>
    split
    next => exact .refl
    next held =>
      split
      next => exact .refl
      next alone =>
        exact State.Disturbs.leads (.renew p g k term (by simpa using held) (by simpa using alone))
  next => exact .refl

theorem State.leads_releaseReply (group : Byte) : s.Leads (releaseReply p group s).state := by
  refine State.leads_attachedOnly p fun _ => ?_
  split
  next => exact .refl
  next g _ =>
    split
    next => exact .refl
    next held => exact State.Disturbs.leads (.release p g (by simpa using held))

theorem State.leads_stageChannelReply (channel mask enabled reference : Byte) (gateLength settle : Half)
    (openLimit shortLimit : Tri) :
    s.Leads (stageChannelReply p channel mask enabled reference gateLength settle openLimit shortLimit
      s).state := by
  refine State.leads_attachedOnly p fun _ => ?_
  split
  next c given _ _ =>
    split
    next => exact .refl
    next held =>
      have holder : s.holder (groupOf c) = some p := State.holds_iff.mp (by simpa using held)
      exact State.Adjusts.leads (.stage c _ (by rw [holder]; rfl))
  next => exact .refl

theorem State.leads_stageReferenceReply (reference mask enabled : Byte)
    (settle cacheAgeMs holdOffMs : Half) :
    s.Leads (stageReferenceReply p reference mask enabled settle cacheAgeMs holdOffMs s).state := by
  refine State.leads_attachedOnly p fun _ => ?_
  split
  next =>
    split
    next => exact .refl
    next held => exact State.Adjusts.leads (.stageHub p _ (by simpa using held))
  next => exact .refl

theorem State.leads_stageHubReply (mask : Byte) (ageStepMs extWaitMs : Half) :
    s.Leads (stageHubReply p mask ageStepMs extWaitMs s).state := by
  refine State.leads_attachedOnly p fun _ => ?_
  split
  next =>
    split
    next => exact .refl
    next held => exact State.Adjusts.leads (.stageHub p _ (by simpa using held))
  next => exact .refl

theorem State.leads_unstageReply (selector : Byte) : s.Leads (unstageReply p selector s).state := by
  refine State.leads_attachedOnly p fun _ => ?_
  split
  next => exact .refl
  next c _ =>
    split
    next => exact .refl
    next held =>
      split
      next => exact .refl
      next =>
        have holder : s.holder (groupOf c) = some p := State.holds_iff.mp (by simpa using held)
        exact State.Adjusts.leads (.stage c none (by rw [holder]; rfl))
  next =>
    split
    next => exact .refl
    next held =>
      split
      next => exact .refl
      next => exact State.Adjusts.leads (.stageHub p _ (by simpa using held))

theorem State.leads_commitReply (selector : Byte) : s.Leads (commitReply p selector s).state := by
  refine State.leads_attachedOnly p fun _ => ?_
  split
  next => exact .refl
  next scope _ =>
    split
    next => exact .refl
    next =>
      split
      next => exact .refl
      next =>
        split
        next => exact .refl
        next valid => exact State.leads_commit (by simpa using valid)

theorem State.leads_answer (tag : Half) (c : Command) : s.Leads (answer p tag c s).state := by
  cases c with
  | nop => exact .refl
  | hello client => exact State.leads_helloReply p client
  | bind attention silenceMs => exact State.leads_bindReply p attention silenceMs
  | detach => exact State.leads_detachReply p
  | portStatus => exact .refl
  | convert channel gate priority => exact State.leads_convertReply p tag channel gate priority
  | cancel target => exact State.leads_cancelReply p target
  | queueStatus => exact State.leads_attachedOnly p fun _ => .refl
  | readResult channel =>
    refine State.leads_attachedOnly p fun _ => ?_
    split <;> exact .refl
  | fetch => exact State.leads_fetchReply p
  | schedAdd channel gate priority periodMs =>
    exact State.leads_schedAddReply p channel gate priority periodMs
  | schedDelete schedule => exact State.leads_schedDeleteReply p schedule
  | schedPause schedule => exact State.leads_schedPauseReply p schedule
  | schedResume schedule => exact State.leads_schedResumeReply p schedule
  | schedStatus schedule => exact State.leads_schedStatusReply p schedule
  | watchSet slot channel low high hyst notify priority =>
    exact State.leads_watchSetReply p slot channel low high hyst notify priority
  | watchClear slot => exact State.leads_watchClearReply p slot
  | readNotices start => exact State.leads_readNoticesReply p start
  | ackNotice source generation => exact State.leads_ackNoticeReply p source generation
  | lease group kind termMs => exact State.leads_leaseReply p tag group kind termMs
  | withdraw target => exact State.leads_withdrawReply p target
  | renew group kind termMs => exact State.leads_renewReply p group kind termMs
  | release group => exact State.leads_releaseReply p group
  | groupStatus group =>
    refine State.leads_attachedOnly p fun _ => ?_
    split <;> exact .refl
  | readChannel channel =>
    refine State.leads_attachedOnly p fun _ => ?_
    split <;> exact .refl
  | readHub => exact State.leads_attachedOnly p fun _ => .refl
  | stageChannel channel mask enabled reference gateLength settle openLimit shortLimit =>
    exact State.leads_stageChannelReply p channel mask enabled reference gateLength settle openLimit
      shortLimit
  | stageReference reference mask enabled settle cacheAgeMs holdOffMs =>
    exact State.leads_stageReferenceReply p reference mask enabled settle cacheAgeMs holdOffMs
  | stageHub mask ageStepMs extWaitMs => exact State.leads_stageHubReply p mask ageStepMs extWaitMs
  | unstage selector => exact State.leads_unstageReply p selector
  | commit selector => exact State.leads_commitReply p selector

end Answers

/-! ## The step -/

section Step

variable {s t : State}

theorem State.leads_endTransaction (p : PortId) (sdi : List Bool) :
    s.Leads (s.endTransaction p sdi) := by
  unfold State.endTransaction
  split
  next short => exact State.leads_endShort p
  next full =>
    split
    next => exact State.leads_endBad p
    next => exact State.leads_endGood p (fun _ => .refl) _ _
    next tag _ c _ => exact State.leads_endGood p (fun _ => State.leads_answer p tag c) _ _

theorem State.leads_holdOffExpires (r : RefId) : s.Leads (s.holdOffExpires r) := by
  unfold State.holdOffExpires
  split
  next =>
    split
    next due => exact State.Adjusts.leads (.health r _)
    next => exact .refl
  next => exact .refl

theorem State.leads_cacheExpires (r : RefId) : s.Leads (s.cacheExpires r) := by
  unfold State.cacheExpires
  split
  next =>
    split
    next due => exact State.Adjusts.leads (.health r _)
    next => exact .refl
  next => exact .refl

theorem State.leads_releaseHubReset : s.Leads s.releaseHubReset := by
  unfold State.releaseHubReset
  split
  next => exact State.Adjusts.leads .rise
  next => exact .refl

theorem State.leads_tick : s.Leads s.tick := by
  unfold State.tick
  split
  next => exact .refl
  next => exact State.Adjusts.leads .tick

/-- RESET falls (R189), or PRSTn does while RESET is low (R160). -/
inductive State.Resets (s : State) : State → Prop
  | hub : Resets s (s.resetBlocks true)
  | port (p : PortId) (reset : s.inReset = true) : Resets s (s.setPort p (PortController.reset .offline))

theorem State.assertPortReset_of_reset {p : PortId} (reset : s.inReset = true) :
    s.assertPortReset p = s.setPort p (PortController.reset .offline) :=
  if_pos reset

theorem exec_event_leads {i : Instr} (event : i.request = none) (s : State) :
    ∃ t, exec i s = .next t ∧ (s.Leads t ∨ s.Resets t) := by
  cases i with
  | portResetAssert p =>
    refine ⟨_, rfl, ?_⟩
    cases reset : s.inReset with
    | false => exact .inl (State.leads_assertPortReset p reset)
    | true =>
      rw [State.assertPortReset_of_reset reset]
      exact .inr (.port p reset)
  | hubReset => exact ⟨_, rfl, .inr .hub⟩
  | hubResetRelease => exact ⟨_, rfl, .inl State.leads_releaseHubReset⟩
  | portResetRelease p => exact ⟨_, rfl, .inl (State.leads_releasePortReset p)⟩
  | transactionStart p => exact ⟨_, rfl, .inl (State.leads_beginTransaction p)⟩
  | shortTransaction p sdi => exact ⟨_, rfl, .inl (State.leads_endTransaction p sdi)⟩
  | linkError p sdi => exact ⟨_, rfl, .inl (State.leads_endTransaction p sdi)⟩
  | requestDiscarded p sdi => exact ⟨_, rfl, .inl (State.leads_endTransaction p sdi)⟩
  | repeatRequest p sdi => exact ⟨_, rfl, .inl (State.leads_endTransaction p sdi)⟩
  | unknownCommand p sdi => exact ⟨_, rfl, .inl (State.leads_endTransaction p sdi)⟩
  | responseReady p => exact ⟨_, rfl, .inl (State.leads_readyExpires p)⟩
  | bindWindowExpiry p => exact ⟨_, rfl, .inl (State.leads_bindWindowExpires p)⟩
  | silenceExpiry p => exact ⟨_, rfl, .inl (State.leads_silenceExpires p)⟩
  | leaseExpiry g => exact ⟨_, rfl, .inl (State.leads_leaseExpires g)⟩
  | scheduleDue i => exact ⟨_, rfl, .inl (State.leads_scheduleDue i)⟩
  | holdOffExpiry r => exact ⟨_, rfl, .inl (State.leads_holdOffExpires r)⟩
  | cacheExpiry r => exact ⟨_, rfl, .inl (State.leads_cacheExpires r)⟩
  | agingCapExpiry position => exact ⟨_, rfl, .inl (State.Adjusts.leads (.aging position))⟩
  | settleEnd => exact ⟨_, rfl, .inl s.leads_settleExpiry⟩
  | gateClose => exact ⟨_, rfl, .inl s.leads_gateExpiry⟩
  | stall => exact ⟨_, rfl, .inl s.leads_stallExpiry⟩
  | pairDeadlineExpiry => exact ⟨_, rfl, .inl s.leads_pairExpiry⟩
  | oscillatorEdge => exact ⟨_, rfl, .inl s.leads_oscillatorEdge⟩
  | gateRisingEdge => exact ⟨_, rfl, .inl s.leads_gateEdge⟩
  | hubTimeAdvance => exact ⟨_, rfl, .inl State.leads_tick⟩
  | _ => cases event

theorem exec_leads (i : Instr) (s : State) :
    ∃ t, exec i s = .next t ∧ (s.Leads t ∨ s.Resets t) := by
  cases row : i.request with
  | none => exact exec_event_leads row s
  | some request =>
    obtain ⟨p, tag, c⟩ := request
    exact ⟨_, exec_of_request row s,
      .inl (State.leads_endGood p (fun _ => State.leads_answer p tag c) tag _)⟩

/-- Every step is a chain of the listed changes, or a fall of RESET or PRSTn. -/
theorem step_leads (next : step s = .next t) : s.Leads t ∨ ∃ rest, (s.setPending rest).Resets t := by
  unfold step at next
  split at next
  next =>
    cases next
    exact .inl .refl
  next i rest _ =>
    obtain ⟨t', run, leads⟩ := exec_leads i (s.setPending rest)
    rw [run] at next
    cases next
    exact leads.imp (State.Adjusts.leads (.pending rest)).trans fun resets => ⟨rest, resets⟩

/-- A property that the changes of the lists keep, and the falls of RESET and PRSTn too, is kept by every
step. -/
theorem Kept.step {P : State → Prop} (kept : Kept P) (resets : ∀ {s t : State}, P s → s.Resets t → P t)
    (h : P s) (next : step s = .next t) : P t := by
  rcases step_leads next with leads | ⟨rest, falls⟩
  · exact kept.leads h leads
  · exact resets (kept.adjusts h (.pending rest)) falls

end Step

end Sys2Proof.Machine
end

section
/-!
PROOF. The arbiter (R58 to R60, R25): which entries are dispatchable, the choice by effective priority and
creation order, the run dispatch by dispatch, and the statements DispatchableUnlessHeldBack and
ArbiterChoosesAndDispatches.
-/
namespace Sys2Proof.Machine

/-! ## The exclusive-lease hold (R59) -/

section HeldBack

variable {s : State} {e : Entry}

theorem Lease.holdsBack_iff {l : Lease} :
    l.holdsBack e = true ↔
      ∃ holder expiry, l = .held holder .exclusive expiry ∧ ∀ w ∈ e.waiters, w.port ≠ holder := by
  cases l with
  | free => simp [Lease.holdsBack]
  | held p kind expiry =>
    cases kind with
    | configure => simp [Lease.holdsBack]
    | exclusive => simp [Lease.holdsBack, Entry.hasWaiterOf]

theorem State.dispatchable_of_pending (pending : e.state = .pending) :
    s.dispatchable e = !(s.group (groupOf e.channel)).lease.holdsBack e := by
  rw [State.dispatchable, Entry.isPending_iff.mpr pending, Bool.true_and]

theorem State.not_dispatchable_of_inFlight (flying : e.state = .inFlight) :
    s.dispatchable e = false := by
  simp [State.dispatchable, Entry.isPending, flying]

end HeldBack

/-- Settles O24: the hold is the only thing that keeps a PENDING entry from the arbiter. -/
theorem dispatchableUnlessHeldBack : Obligations.DispatchableUnlessHeldBack := by
  intro s e
  refine ⟨State.not_dispatchable_of_inFlight, fun pending => ?_⟩
  rw [State.dispatchable_of_pending pending, Bool.not_eq_false', Lease.holdsBack_iff]

/-! ## The choice (R60) -/

/-- The best entry stands where every older one is lower and every younger one is not higher. -/
theorem bestOf_split {f : Entry → Nat} : {l : List Entry} → {e : Entry} → bestOf f l = some e →
    ∃ older younger, l = older ++ e :: younger ∧ (∀ x ∈ older, f x < f e) ∧ ∀ x ∈ younger, f x ≤ f e
  | [], e, h => by cases h
  | a :: l, e, h => by
    unfold bestOf at h
    cases rest : bestOf f l with
    | none =>
      rw [rest] at h
      cases h
      exact ⟨[], [], by rw [bestOf_eq_none.mp rest]; rfl, nofun, nofun⟩
    | some b =>
      obtain ⟨older, younger, split, below, above⟩ := bestOf_split rest
      rw [rest] at h
      dsimp only at h
      split at h
      next lower =>
        cases h
        refine ⟨a :: older, younger, congrArg (a :: ·) split, ?_, above⟩
        exact List.forall_mem_cons.mpr ⟨lower, below⟩
      next notLower =>
        cases h
        refine ⟨[], l, rfl, nofun, fun x hx => ?_⟩
        have best : f b ≤ f a := Nat.le_of_not_lt notLower
        rw [split, List.mem_append, List.mem_cons] at hx
        rcases hx with hx | rfl | hx
        · exact Nat.le_trans (Nat.le_of_lt (below x hx)) best
        · exact best
        · exact Nat.le_trans (above x hx) best

/-- A split of a filtered list comes from a split of the list. -/
theorem exists_split_of_filter {α : Type} {keep : α → Bool} {l older younger : List α} {e : α}
    (split : l.filter keep = older ++ e :: younger) :
    ∃ before after, l = before ++ e :: after ∧ before.filter keep = older ∧
      after.filter keep = younger ∧ keep e = true := by
  obtain ⟨before, tail, rfl, old, rest⟩ := List.filter_eq_append_iff.mp split
  obtain ⟨skipped, after, rfl, none, kept, young⟩ := List.filter_eq_cons_iff.mp rest
  refine ⟨before ++ skipped, after, by simp, ?_, young, kept⟩
  rw [List.filter_append, old, List.filter_eq_nil_iff.mpr none, List.append_nil]

section Choice

variable {s : State} {e : Entry}

theorem State.chosenEntry_eq_none_iff :
    s.chosenEntry = none ↔ ∀ e ∈ s.entries, s.dispatchable e = false := by
  rw [State.chosenEntry, bestOf_eq_none, List.filter_eq_nil_iff]
  exact forall₂_congr fun _ _ => Iff.of_eq (Bool.not_eq_true _)

theorem State.chosenEntry_split (chosen : s.chosenEntry = some e) :
    ∃ older younger, s.entries = older ++ e :: younger ∧ s.dispatchable e = true ∧
      (∀ f ∈ older, s.dispatchable f = true → s.effectivePriority f < s.effectivePriority e) ∧
      ∀ f ∈ younger, s.dispatchable f = true → s.effectivePriority f ≤ s.effectivePriority e := by
  obtain ⟨older, younger, split, below, above⟩ := bestOf_split chosen
  obtain ⟨before, after, entries, rfl, rfl, dispatchable⟩ := exists_split_of_filter split
  exact ⟨before, after, entries, dispatchable, fun f hf can => below f (List.mem_filter.mpr ⟨hf, can⟩),
    fun f hf can => above f (List.mem_filter.mpr ⟨hf, can⟩)⟩

/-! ## The run (R58, R25) -/

theorem arbiterRuns_of_busy (n : Nat) (busy : s.engine.conversion ≠ none) : arbiterRuns n s = s := by
  cases n with
  | zero => rfl
  | succ n => exact if_pos (Option.isSome_iff_ne_none.mpr busy)

theorem arbiterRuns_of_none (n : Nat) (none : s.chosenEntry = none) : arbiterRuns n s = s := by
  cases n with
  | zero => rfl
  | succ n =>
    unfold arbiterRuns
    rw [none]
    exact ite_self s

/-- One dispatch of an IDLE engine. -/
theorem arbiterRuns_succ_of_chosen (n : Nat) (idle : s.engine.conversion = none)
    (chosen : s.chosenEntry = some e) : arbiterRuns (n + 1) s =
      if s.faultedFor e then arbiterRuns n (s.completeEntry e (s.faultedOutcome e))
      else s.startConversion e := by
  rw [arbiterRuns, idle, chosen]
  rfl

theorem State.length_entries_of_chosen (chosen : s.chosenEntry = some e) (o : Outcome) :
    s.entries.length = (s.completeEntry e o).entries.length + 1 := by
  have mem := (State.chosenEntry_mem chosen).1
  rw [State.entries_completeEntry, List.length_erase_of_mem mem]
  have := List.length_pos_of_mem mem
  omega

theorem State.faultedFor_iff : s.faultedFor e = true ↔
    (s.health (s.channel e.channel).settings.reference).state = .faulted := decide_eq_true_iff

theorem State.runArbiter_of_faulted (idle : s.engine.conversion = none)
    (chosen : s.chosenEntry = some e) (faulted : s.faultedFor e = true) :
    s.runArbiter = (s.completeEntry e (s.faultedOutcome e)).runArbiter := by
  rw [State.runArbiter, State.length_entries_of_chosen chosen (s.faultedOutcome e),
    arbiterRuns_succ_of_chosen _ idle chosen, if_pos faulted, State.runArbiter]

theorem State.runArbiter_of_sound (idle : s.engine.conversion = none)
    (chosen : s.chosenEntry = some e) (sound : s.faultedFor e = false) :
    s.runArbiter = s.startConversion e := by
  rw [State.runArbiter, State.length_entries_of_chosen chosen (s.faultedOutcome e),
    arbiterRuns_succ_of_chosen _ idle chosen, sound]
  rfl

end Choice

/-- Settles O25: when the arbiter stands still, what it chooses, and its run as one dispatch and the run that
follows. -/
theorem arbiterChoosesAndDispatches : Obligations.ArbiterChoosesAndDispatches := by
  refine ⟨fun s busy => arbiterRuns_of_busy _ busy,
    fun s still => arbiterRuns_of_none _ (State.chosenEntry_eq_none_iff.mpr still),
    fun s => State.chosenEntry_eq_none_iff, fun s e => State.chosenEntry_split, ?_⟩
  intro s e idle chosen record ref
  refine ⟨fun sound => ?starts, fun faulted => ?completes⟩
  case starts =>
    exact State.runArbiter_of_sound idle chosen (Bool.eq_false_iff.mpr (mt State.faultedFor_iff.mp sound))
  case completes => exact State.runArbiter_of_faulted idle chosen (State.faultedFor_iff.mpr faulted)

/-! ## The arbiter's run leaves nothing to dispatch (R58) -/

/-- Each dispatch but the last removes an entry, so the run ends before its bound. -/
theorem arbiterSound_arbiterRuns : ∀ (n : Nat) (s : State), s.entries.length ≤ n →
    (arbiterRuns n s).ArbiterSound
  | 0, s, few => by
    intro _ e he
    rw [arbiterRuns, List.eq_nil_of_length_eq_zero (Nat.le_zero.mp few)] at he
    cases he
  | n + 1, s, few => by
    by_cases busy : s.engine.conversion = none
    case neg =>
      rw [arbiterRuns_of_busy _ busy]
      exact fun idle => absurd idle busy
    case pos =>
      cases chosen : s.chosenEntry with
      | none =>
        rw [arbiterRuns_of_none _ chosen]
        exact fun _ => State.chosenEntry_eq_none_iff.mp chosen
      | some e =>
        rw [arbiterRuns_succ_of_chosen n busy chosen]
        split
        next faulted =>
          refine arbiterSound_arbiterRuns n _ ?_
          have := State.length_entries_of_chosen chosen (s.faultedOutcome e)
          omega
        next sound => exact fun idle => absurd idle (Option.some_ne_none _)

theorem State.arbiterSound_runArbiter (s : State) : s.runArbiter.ArbiterSound :=
  arbiterSound_arbiterRuns _ s (Nat.le_refl _)

end Sys2Proof.Machine
end

section
/-!
PROOF. Four properties that every step keeps, each shown for the changes a step is made of: the committed
channel table stays valid (StepKeepsConfigurationValid), selection, edge counter and arbiter stay in step with
the engine (StepKeepsEngineAndArbiterInStep), and the notice lists stay ordered (StepKeepsNoticeListsOrdered).
-/
namespace Sys2Proof.Machine

/-! ## The committed channel table (R9) -/

section Config

variable {s t : State}

theorem State.ConfigSound.of_config (h : s.ConfigSound) (same : t.config = s.config) : t.ConfigSound := by
  rwa [State.ConfigSound, same]

theorem State.config_concluded (c : Conversion) (o : Outcome) : (s.concluded c o).config = s.config := by
  unfold State.concluded
  split
  · exact State.completeEntry_config ..
  · rfl

theorem State.config_applyCommit (scope : CommitScope) :
    (s.applyCommit scope).config = s.tableAfter scope := by
  cases scope <;> rfl

theorem State.configSound_resetBlocks (s : State) (inReset : Bool) : (s.resetBlocks inReset).ConfigSound :=
  (by decide +kernel : ChannelTable.reset.valid = true)

theorem State.ConfigSound.resets (h : s.ConfigSound) (falls : s.Resets t) : t.ConfigSound := by
  cases falls with
  | hub => exact s.configSound_resetBlocks true
  | port p reset => exact h

theorem State.ConfigSound.adjusts (h : s.ConfigSound) (change : s.Adjusts t) : t.ConfigSound := by
  cases change with
  | rise => exact s.configSound_resetBlocks false
  | _ => exact h

/-- Only COMMIT changes the table, and only to one that has passed the check of R140. -/
theorem configSound_kept : Kept State.ConfigSound where
  adjusts := State.ConfigSound.adjusts
  disturbs := by
    intro s t h change
    cases change with
    | adjusts quiet => exact h.adjusts quiet
    | applyCommit scope valid => exact (congrArg _ (State.config_applyCommit scope)).trans valid
    | renew p g kind termMs => exact h
    | conclude c o => exact h.of_config (State.config_concluded c o)
    | _ => exact h.of_config (by simp)
  complete := fun h _ _ => h.of_config (State.completeEntry_config ..)
  start := fun h _ _ => h.of_config (State.startConversion_config ..)

end Config

/-- Settles O52. -/
theorem stepKeepsConfigurationValid : Obligations.StepKeepsConfigurationValid :=
  fun _ _ h next => configSound_kept.step State.ConfigSound.resets h next

/-! ## The network selected, and the edge counter (R1, R23) -/

section Engine

variable {s t : State}

/-- IDLE, with nothing selected and the counter cleared. -/
structure State.Stopped (s : State) : Prop where
  selection : s.selection = .none
  idle : s.engine.conversion = none
  counter : s.engine.edgeCounter = 0

theorem State.stopped_stopEngine (s : State) : s.stopEngine.Stopped := ⟨rfl, rfl, rfl⟩

theorem State.Stopped.of_engine (h : s.Stopped) (selection : t.selection = s.selection)
    (engine : t.engine = s.engine) : t.Stopped := by
  obtain ⟨none, idle, counter⟩ := h
  exact ⟨selection.trans none, engine ▸ idle, engine ▸ counter⟩

theorem State.Stopped.selectionSound (h : s.Stopped) : s.SelectionSound := by
  rw [State.SelectionSound, Engine.selected, h.idle, h.selection]

theorem State.Stopped.counterSound (h : s.Stopped) : s.CounterSound := fun _ => h.counter

theorem State.stopped_concluded (c : Conversion) (o : Outcome) : (s.concluded c o).Stopped := by
  unfold State.concluded
  split
  · exact s.stopped_stopEngine.of_engine (State.completeEntry_selection ..) (State.completeEntry_engine ..)
  · exact s.stopped_stopEngine.of_engine rfl rfl

theorem State.stopped_abortInFlight (s : State) : s.abortInFlight.Stopped := by
  unfold State.abortInFlight
  dsimp only
  split
  · exact s.stopped_stopEngine
  · exact s.stopped_stopEngine.of_engine (by simp) (by simp)

/-- A removal of waiters stops the engine, or leaves it. -/
theorem State.removeWaiters_cases (s : State) (gone : Waiter → Bool) :
    (s.removeWaiters gone).Stopped ∨
      ((s.removeWaiters gone).selection = s.selection ∧ (s.removeWaiters gone).engine = s.engine) := by
  unfold State.removeWaiters
  dsimp only
  split
  · exact .inl (State.stopped_stopEngine _)
  · exact .inr ⟨rfl, rfl⟩

theorem State.SelectionSound.of_engine (h : s.SelectionSound) (selection : t.selection = s.selection)
    (engine : t.engine.conversion = s.engine.conversion) : t.SelectionSound := by
  rw [State.SelectionSound, Engine.selected, engine, selection]
  exact h

theorem State.CounterSound.of_engine (h : s.CounterSound) (engine : t.engine = s.engine) :
    t.CounterSound := by
  rwa [State.CounterSound, engine]

theorem State.applyCommit_conversion (s : State) (scope : CommitScope) :
    (s.applyCommit scope).engine.conversion = s.engine.conversion ∧
      (s.applyCommit scope).engine.edgeCounter = s.engine.edgeCounter := by
  cases scope <;> exact ⟨rfl, rfl⟩

theorem State.SelectionSound.resets (h : s.SelectionSound) (falls : s.Resets t) : t.SelectionSound := by
  cases falls with
  | hub => rfl
  | port p reset => exact h

theorem State.CounterSound.resets (h : s.CounterSound) (falls : s.Resets t) : t.CounterSound := by
  cases falls with
  | hub => exact fun _ => rfl
  | port p reset => exact h

theorem State.SelectionSound.adjusts (h : s.SelectionSound) (change : s.Adjusts t) :
    t.SelectionSound := by
  cases change with
  | rise => rfl
  | phase x e conv moved key selected => exact selected h
  | _ => exact h

theorem State.selectionSound_startConversion (s : State) (e : Entry) :
    (s.startConversion e).SelectionSound := by
  rw [State.SelectionSound, State.startConversion]
  cases s.cachedCountFor e <;> rfl

theorem selectionSound_kept : Kept State.SelectionSound where
  adjusts := State.SelectionSound.adjusts
  disturbs := by
    intro s t h change
    cases change with
    | adjusts quiet => exact h.adjusts quiet
    | removeWaiters gone =>
      rcases s.removeWaiters_cases gone with stopped | ⟨selection, engine⟩
      · exact stopped.selectionSound
      · exact h.of_engine selection (congrArg _ engine)
    | conclude c o => exact (State.stopped_concluded c o).selectionSound
    | abortInFlight => exact s.stopped_abortInFlight.selectionSound
    | applyCommit scope => exact h.of_engine (by simp) (s.applyCommit_conversion scope).1
    | renew p g kind termMs => exact h
    | _ => exact h.of_engine (by simp) (by simp)
  complete := fun h _ _ => h.of_engine (by simp) (by simp)
  start := fun _ _ _ => State.selectionSound_startConversion ..

theorem State.CounterSound.adjusts (h : s.CounterSound) (change : s.Adjusts t) : t.CounterSound := by
  cases change with
  | rise => exact fun _ => rfl
  | phase x e conv moved key selected => exact fun idle => absurd (moved.symm.trans idle) nofun
  | _ => exact h

theorem counterSound_kept : Kept State.CounterSound where
  adjusts := State.CounterSound.adjusts
  disturbs := by
    intro s t h change
    cases change with
    | adjusts quiet => exact h.adjusts quiet
    | removeWaiters gone =>
      rcases s.removeWaiters_cases gone with stopped | ⟨-, engine⟩
      · exact stopped.counterSound
      · exact h.of_engine engine
    | conclude c o => exact (State.stopped_concluded c o).counterSound
    | abortInFlight => exact s.stopped_abortInFlight.counterSound
    | applyCommit scope =>
      obtain ⟨conversion, counter⟩ := s.applyCommit_conversion scope
      exact fun idle => counter.trans (h (conversion ▸ idle))
    | renew p g kind termMs => exact h
    | _ => exact h.of_engine (by simp)
  complete := fun h _ _ => h.of_engine (by simp)
  start := fun _ _ _ idle => absurd idle (Option.some_ne_none _)

end Engine

/-! ## Nothing is left to dispatch (R58) -/

section Arbiter

variable {s t : State}

/-- An entry stays undispatchable while its waiters stay and its group's lease, unless FREE, stays. -/
theorem State.dispatchable_of_leases {e : Entry}
    (leases : ∀ g, (t.group g).lease = (s.group g).lease ∨ (s.group g).lease = .free)
    (still : s.dispatchable e = false) : t.dispatchable e = false := by
  rcases leases (groupOf e.channel) with same | free
  · rwa [State.dispatchable, same]
  · have notPending : e.isPending = false := by simpa [State.dispatchable, free, Lease.holdsBack] using still
    rw [State.dispatchable, notPending, Bool.false_and]

theorem State.ArbiterSound.of_leases (h : s.ArbiterSound) (engine : t.engine = s.engine)
    (entries : t.entries = s.entries)
    (leases : ∀ g, (t.group g).lease = (s.group g).lease ∨ (s.group g).lease = .free) :
    t.ArbiterSound := by
  intro idle e he
  rw [engine] at idle
  rw [entries] at he
  exact State.dispatchable_of_leases leases (h idle e he)

/-- The record of one group changes, and its lease only if it was FREE. -/
theorem State.ArbiterSound.setGroup (h : s.ArbiterSound) {g : GroupId} {x : GroupLease}
    (lease : x.lease = (s.group g).lease ∨ (s.group g).lease = .free) : (s.setGroup g x).ArbiterSound := by
  refine h.of_leases rfl rfl fun k => ?_
  by_cases same : k = g
  · subst same
    rwa [State.group_setGroup]
  · rw [State.group_setGroup_of_ne _ _ same]
    exact .inl rfl

theorem Entry.dispatchable_agingExpired (now : Time) (e : Entry) :
    s.dispatchable (e.agingExpired now) = s.dispatchable e := by
  unfold Entry.agingExpired
  split
  · split <;> rfl
  · rfl

theorem State.ArbiterSound.agingCapExpires (h : s.ArbiterSound) (position : Fin 24) :
    (s.agingCapExpires position).ArbiterSound := by
  intro idle f hf
  obtain ⟨j, _, rfl⟩ := List.mem_iff_getElem.mp (show f ∈ s.entries.modify _ _ from hf)
  rw [List.getElem_modify]
  split
  · exact (Entry.dispatchable_agingExpired (s := s) _ _).trans (h idle _ (List.getElem_mem _))
  · exact h idle _ (List.getElem_mem _)

theorem State.ArbiterSound.adjusts (h : s.ArbiterSound) (change : s.Adjusts t) : t.ArbiterSound := by
  cases change with
  | rise => exact fun _ => nofun
  | phase x e conv moved key selected => exact fun idle => absurd (moved.symm.trans idle) nofun
  | aging position => exact h.agingCapExpires position
  | withdraw g keep => exact h.setGroup (.inl rfl)
  | grant p g kind termMs attached free => exact h.setGroup (.inr free)
  | queueLease holder g q =>
    have queued : (s.setGroup g { s.group g with waiting := (s.group g).waiting ++ [q] }).ArbiterSound :=
      h.setGroup (.inl rfl)
    exact queued.of_leases rfl rfl fun _ => .inl rfl
  | _ => exact h

/-- An adjustment makes no entry dispatchable; every other change is followed by the arbiter's run. -/
theorem State.ArbiterSound.leads (h : s.ArbiterSound) (leads : s.Leads t) : t.ArbiterSound := by
  refine leads.keeps (fun hs act => ?_) h
  cases act with
  | quiet adjusted => exact hs.adjusts adjusted
  | arbitrated => exact State.arbiterSound_runArbiter _

theorem State.ArbiterSound.step (h : s.ArbiterSound) (next : step s = .next t) : t.ArbiterSound := by
  rcases step_leads next with leads | ⟨rest, falls⟩
  · exact h.leads leads
  · cases falls with
    | hub => exact fun _ => nofun
    | port p reset => exact h

end Arbiter

/-- Settles O55. -/
theorem stepKeepsEngineAndArbiterInStep : Obligations.StepKeepsEngineAndArbiterInStep :=
  ⟨fun _ _ selection arbiter next =>
      ⟨selectionSound_kept.step State.SelectionSound.resets selection next, arbiter.step next⟩,
    fun _ _ h next => counterSound_kept.step State.CounterSound.resets h next⟩

/-! ## The notice lists (R108, R110, R113) -/

section Notices

variable {s t : State}

theorem State.NoticesSound.of_watch (h : s.NoticesSound) (same : t.watch = s.watch) :
    t.NoticesSound := by
  intro p
  rw [State.portWatch, same]
  exact h p

theorem State.NoticesSound.setPortWatch (h : s.NoticesSound) {p : PortId} {w : PortWatch}
    (sound : w.Sound) : (s.setPortWatch p w).NoticesSound := by
  intro q
  by_cases same : q = p
  · subst same
    rwa [State.portWatch_setPortWatch]
  · rw [State.portWatch_setPortWatch_of_ne _ _ same]
    exact h q

theorem State.NoticesSound.raiseGroup (h : s.NoticesSound) (p : PortId) (g : GroupId)
    (releaseRequested revoked : Bool) : (s.raiseGroup p g releaseRequested revoked).NoticesSound :=
  h.setPortWatch ((h p).raise _ _ _)

theorem State.NoticesSound.completeEntry (h : s.NoticesSound) (e : Entry) (o : Outcome) :
    (s.completeEntry e o).NoticesSound := by
  intro p
  rw [State.portWatch_completeEntry]
  exact (h p).evaluate _ _ _ _

theorem State.NoticesSound.evaluateWatches (h : s.NoticesSound) (c : ChannelId) (o : Outcome) :
    (s.evaluateWatches c o).NoticesSound := by
  intro p
  have read : (s.evaluateWatches c o).portWatch p =
      (s.portWatch p).evaluate c o.judged (s.result c).seq s.hubTime := Table.read_map ..
  rw [read]
  exact (h p).evaluate _ _ _ _

theorem State.NoticesSound.concluded (h : s.NoticesSound) (c : Conversion) (o : Outcome) :
    (s.concluded c o).NoticesSound := by
  have stopped : s.stopEngine.NoticesSound := h
  unfold State.concluded
  split
  · exact stopped.completeEntry _ _
  · exact State.NoticesSound.evaluateWatches (s := s.stopEngine.publish _ _) stopped _ _

theorem State.NoticesSound.passOn (h : s.NoticesSound) (g : GroupId) : (s.passOn g).NoticesSound := by
  unfold State.passOn
  split
  next => exact h
  next =>
    dsimp only
    split
    next => exact h
    next => exact State.NoticesSound.raiseGroup (s := (s.setGroup _ _).place _ _) h _ _ _ _

theorem State.NoticesSound.releaseGroup (h : s.NoticesSound) (p : PortId) (g : GroupId) :
    (s.releaseGroup p g).NoticesSound :=
  State.NoticesSound.passOn (h.of_watch (State.discardStaging_watch ..)) g

theorem State.noticesSound_resetBlocks (s : State) (inReset : Bool) :
    (s.resetBlocks inReset).NoticesSound := by
  intro p
  have fresh : (s.resetBlocks inReset).portWatch p = PortWatch.reset := Table.read_fill ..
  rw [fresh]
  exact PortWatch.sound_reset

theorem State.NoticesSound.resets (h : s.NoticesSound) (falls : s.Resets t) : t.NoticesSound := by
  cases falls with
  | hub => exact s.noticesSound_resetBlocks true
  | port p reset => exact h

theorem State.NoticesSound.adjusts (h : s.NoticesSound) (change : s.Adjusts t) : t.NoticesSound := by
  cases change with
  | rise => exact s.noticesSound_resetBlocks false
  | watch p w engaged sound => exact h.setPortWatch (sound (h p))
  | queueLease holder g q => exact State.NoticesSound.raiseGroup (s := s.setGroup _ _) h _ _ _ _
  | _ => exact h

/-- Notices are raised, dropped, or reset; each of the three keeps a list sound. -/
theorem noticesSound_kept : Kept State.NoticesSound where
  adjusts := State.NoticesSound.adjusts
  disturbs := by
    intro s t h change
    cases change with
    | adjusts quiet => exact h.adjusts quiet
    | release p g => exact h.releaseGroup p g
    | conclude c o => exact h.concluded c o
    | renew p g kind termMs => exact h
    | _ => exact h.of_watch (by simp)
  complete := fun h _ _ => h.completeEntry _ _
  start := fun h _ _ => h

end Notices

/-- Settles O57. -/
theorem stepKeepsNoticeListsOrdered : Obligations.StepKeepsNoticeListsOrdered :=
  fun _ _ h next => noticesSound_kept.step State.NoticesSound.resets h next

end Sys2Proof.Machine
end

section
/-!
PROOF. A group released and passed on, block by block; then the property that every step keeps of the lease
unit: the wait lists stay sound, and staged edits exist only under a lease that allows them (R123, R136), the
statement StepKeepsLeasesAndStaging.
-/
namespace Sys2Proof.Machine

/-! ## A release (R127, R129, R130) -/

section Release

variable (s : State) (p q : PortId) (g k : GroupId)

theorem State.releaseGroup_eq (held : s.holds p g = true) : s.releaseGroup p g = State.releaseIfHeld p s g :=
  (if_pos held).symm

theorem State.group_releaseGroup (held : s.holds p g = true) : (s.releaseGroup p g).group k =
    if k = g then GroupLease.passed s.hubTime (s.group g).waiting else s.group k := by
  rw [State.releaseGroup_eq s p g held, State.group_releaseIfHeld_eq]
  simp [State.holds_iff.mp held]

theorem State.cq_releaseGroup (held : s.holds p g = true) : (s.releaseGroup p g).cq q =
    s.cq q ++ grantRecords s.hubTime g q (s.group g).waiting := by
  rw [State.releaseGroup_eq s p g held, State.cq_releaseIfHeld_eq, if_pos (State.holds_iff.mp held)]

theorem State.portWatch_releaseGroup (held : s.holds p g = true) : (s.releaseGroup p g).portWatch q =
    (s.portWatch q).askedBy s.hubTime g q (s.group g).waiting := by
  rw [State.releaseGroup_eq s p g held, State.portWatch_releaseIfHeld_eq,
    if_pos (State.holds_iff.mp held)]

theorem State.staging_releaseGroup (c : ChannelId) : (s.releaseGroup p g).leases.staging.read c =
    if groupOf c = g then none else s.leases.staging.read c := by
  rw [State.releaseGroup, State.staging_passOn, State.staging_discardStaging]

theorem State.hubStaging_releaseGroup : (s.releaseGroup p g).leases.hubStaging =
    if s.holdsAll p then HubStaging.empty else s.leases.hubStaging := by
  rw [State.releaseGroup, State.hubStaging_passOn, State.hubStaging_discardStaging]

end Release

/-! ## The wait lists (R123) -/

section WaitLists

variable {s t : State}

/-- R129: the head of the list becomes the holder and leaves the list. -/
theorem GroupLease.Sound.passed {x : GroupLease} (h : x.Sound) (now : Time) :
    (GroupLease.passed now x.waiting).Sound := by
  obtain ⟨length, distinct, -, -⟩ := h
  cases waiting : x.waiting with
  | nil => exact ⟨Nat.zero_le _, List.nodup_nil, nofun, fun _ => rfl⟩
  | cons q rest =>
    rw [waiting] at length distinct
    obtain ⟨head, tail⟩ := List.nodup_cons.mp (List.map_cons ▸ distinct)
    refine ⟨Nat.le_of_succ_le length, tail, fun r hr same => head ?_, nofun⟩
    rw [Option.some.inj same]
    exact List.mem_map_of_mem hr

theorem GroupLease.Sound.filter {x : GroupLease} (h : x.Sound) (keep : LeaseRequest → Bool) :
    ({ x with waiting := x.waiting.filter keep } : GroupLease).Sound where
  length := Nat.le_trans (List.length_filter_le ..) h.length
  distinct := h.distinct.sublist (List.filter_sublist.map _)
  holder := fun q hq => h.holder q (List.mem_filter.mp hq).1
  free := fun free => by
    dsimp only
    rw [h.free free, List.filter_nil]

/-- There are three ports. -/
theorem length_le_of_nodup_ports {l : List PortId} (distinct : l.Nodup) : l.length ≤ 3 := by
  match l with
  | [] | [_] | [_, _] | [_, _, _] => simp only [List.length_cons, List.length_nil]; omega
  | a :: b :: c :: d :: rest =>
    obtain ⟨ha, distinct⟩ := List.nodup_cons.mp distinct
    obtain ⟨hb, distinct⟩ := List.nodup_cons.mp distinct
    have hc := (List.nodup_cons.mp distinct).1
    simp only [List.mem_cons, not_or, Fin.ext_iff] at ha hb hc
    omega

/-- R124: of three ports one holds the group and one asks, so at most one more waits. -/
theorem GroupLease.Sound.append {x : GroupLease} (h : x.Sound) {holder : PortId} {q : LeaseRequest}
    (held : x.lease.holder = some holder) (other : holder ≠ q.port)
    (fresh : ∀ y ∈ x.waiting, y.port ≠ q.port) :
    ({ x with waiting := x.waiting ++ [q] } : GroupLease).Sound where
  length := by
    have ports : (holder :: q.port :: x.waiting.map LeaseRequest.port).Nodup := by
      refine List.nodup_cons.mpr ⟨?_, List.nodup_cons.mpr ⟨?_, h.distinct⟩⟩
      · rw [List.mem_cons]
        rintro (same | waits)
        · exact other same
        · obtain ⟨y, hy, same⟩ := List.mem_map.mp waits
          exact h.holder y hy (same ▸ held)
      · intro waits
        obtain ⟨y, hy, same⟩ := List.mem_map.mp waits
        exact fresh y hy same
    have := length_le_of_nodup_ports ports
    simp only [List.length_cons, List.length_map] at this
    rw [List.length_append, List.length_singleton]
    omega
  distinct := by
    rw [List.map_append, List.nodup_append]
    refine ⟨h.distinct, List.pairwise_singleton _ _, fun a ha b hb => ?_⟩
    obtain ⟨y, hy, rfl⟩ := List.mem_map.mp ha
    rw [List.map_singleton, List.mem_singleton] at hb
    exact hb ▸ fresh y hy
  holder := by
    intro y hy
    rcases List.mem_append.mp hy with old | new
    · exact h.holder y old
    · rw [List.mem_singleton.mp new, held]
      exact fun same => other (Option.some.inj same)
  free := fun free => by
    rw [free] at held
    cases held

theorem State.WaitListsSound.of_groups (h : s.WaitListsSound)
    (same : t.leases.groups = s.leases.groups) : t.WaitListsSound := by
  intro g
  rw [State.group, same]
  exact h g

theorem State.WaitListsSound.setGroup (h : s.WaitListsSound) {g : GroupId} {x : GroupLease}
    (sound : x.Sound) : (s.setGroup g x).WaitListsSound := by
  intro k
  by_cases same : k = g
  · subst same
    rwa [State.group_setGroup]
  · rw [State.group_setGroup_of_ne _ _ same]
    exact h k

/-- A group without waiting requests takes any holder. -/
theorem State.WaitListsSound.grant (h : s.WaitListsSound) {g : GroupId}
    (alone : (s.group g).waiting = []) (p : PortId) (kind : LeaseKind) (termMs : Word) :
    (s.grant p g kind termMs).WaitListsSound :=
  h.setGroup ⟨by simp [alone], by simp [alone], by simp [alone], nofun⟩

theorem State.groups_applyCommit (s : State) (scope : CommitScope) :
    (s.applyCommit scope).leases.groups = s.leases.groups := by
  cases scope <;> rfl

theorem State.leases_concluded (s : State) (c : Conversion) (o : Outcome) :
    (s.concluded c o).leases = s.leases := by
  unfold State.concluded
  split
  · exact State.completeEntry_leases ..
  · rfl

theorem State.group_resetBlocks (s : State) (inReset : Bool) (g : GroupId) :
    (s.resetBlocks inReset).group g = { lease := .free, waiting := [] } := Table.read_fill ..

theorem State.waitListsSound_resetBlocks (s : State) (inReset : Bool) :
    (s.resetBlocks inReset).WaitListsSound := by
  intro g
  rw [State.group_resetBlocks]
  exact ⟨Nat.zero_le _, List.nodup_nil, nofun, fun _ => rfl⟩

theorem State.WaitListsSound.resets (h : s.WaitListsSound) (falls : s.Resets t) : t.WaitListsSound := by
  cases falls with
  | hub => exact s.waitListsSound_resetBlocks true
  | port p reset => exact h

theorem State.WaitListsSound.adjusts (h : s.WaitListsSound) (change : s.Adjusts t) :
    t.WaitListsSound := by
  cases change with
  | rise => exact s.waitListsSound_resetBlocks false
  | withdraw g keep => exact h.setGroup ((h g).filter keep)
  | grant p g kind termMs attached free => exact h.grant ((h g).free free) p kind termMs
  | queueLease holder g q attached held other fresh tag credit =>
    exact State.WaitListsSound.of_groups (h.setGroup ((h g).append held other fresh)) rfl
  | _ => exact h

theorem waitListsSound_kept : Kept State.WaitListsSound where
  adjusts := State.WaitListsSound.adjusts
  disturbs := by
    intro s t h change
    cases change with
    | adjusts quiet => exact h.adjusts quiet
    | renew p g kind termMs held uncontended => exact h.grant uncontended p kind termMs
    | release p g held =>
      intro k
      rw [State.group_releaseGroup _ _ _ _ held]
      split
      · exact (h g).passed _
      · exact h k
    | conclude c o => exact h.of_groups (congrArg _ (s.leases_concluded c o))
    | applyCommit scope => exact h.of_groups (s.groups_applyCommit scope)
    | _ => exact h.of_groups (by simp)
  complete := fun h _ _ => h.of_groups (by simp)
  start := fun h _ _ => h

end WaitLists

/-! ## Staged edits (R136) -/

section Staging

variable {s t : State}

/-- What a staged edit needs of its group's lease. -/
theorem State.StagingSound.of_leases (h : s.StagingSound) (same : t.leases = s.leases) :
    t.StagingSound := by
  unfold State.StagingSound State.holdsAll State.holds State.holder State.group
  rw [same]
  exact h

/-- No group loses its holder, and nothing is staged. -/
theorem State.StagingSound.of_holders (h : s.StagingSound)
    (staging : t.leases.staging = s.leases.staging) (hub : t.leases.hubStaging = s.leases.hubStaging)
    (holders : ∀ g, t.holder g = s.holder g ∨ s.holder g = none ∧ (t.holder g).isSome = true) :
    t.StagingSound := by
  obtain ⟨channels, hubs⟩ := h
  refine ⟨fun c staged => ?_, fun staged => ?_⟩
  · rcases holders (groupOf c) with same | ⟨-, held⟩
    · rw [same]
      exact channels c (staging ▸ staged)
    · exact held
  · obtain ⟨p, all⟩ := hubs (hub ▸ staged)
    rw [State.holdsAll_iff] at all
    refine ⟨p, (State.holdsAll_iff _ _).mpr fun g => ?_⟩
    rcases holders g with same | ⟨free, -⟩
    · rw [same, all g]
    · rw [all g] at free
      cases free

theorem State.holder_setGroup (s : State) (g k : GroupId) (x : GroupLease) :
    (s.setGroup g x).holder k = if k = g then x.lease.holder else s.holder k := by
  rw [State.holder]
  by_cases same : k = g
  · subst same
    rw [State.group_setGroup, if_pos rfl]
  · rw [State.group_setGroup_of_ne _ _ same, if_neg same, State.holder]

theorem State.StagingSound.setGroup (h : s.StagingSound) {g : GroupId} {x : GroupLease}
    (lease : x.lease.holder = s.holder g ∨ s.holder g = none ∧ x.lease.holder.isSome = true) :
    (s.setGroup g x).StagingSound := by
  refine h.of_holders rfl rfl fun k => ?_
  rw [State.holder_setGroup]
  by_cases same : k = g
  · rwa [if_pos same, same]
  · exact .inl (if_neg same)

/-- R127: the staging that the group's lease allowed goes with it. -/
theorem State.StagingSound.releaseGroup (h : s.StagingSound) {p : PortId} {g : GroupId}
    (held : s.holds p g = true) : (s.releaseGroup p g).StagingSound := by
  obtain ⟨channels, hubs⟩ := h
  refine ⟨fun c staged => ?_, fun staged => ?_⟩
  · rw [State.staging_releaseGroup] at staged
    by_cases own : groupOf c = g
    · rw [if_pos own] at staged
      cases staged
    · rw [if_neg own] at staged
      rw [State.holder, State.group_releaseGroup _ _ _ _ held, if_neg own]
      exact channels c staged
  · rw [State.hubStaging_releaseGroup] at staged
    by_cases all : s.holdsAll p = true
    · rw [if_pos all] at staged
      cases staged
    · rw [if_neg all] at staged
      obtain ⟨q, allOfQ⟩ := hubs staged
      have holder : s.holder g = some q := (State.holdsAll_iff _ _).mp allOfQ g
      rw [State.holds_iff.mp held] at holder
      cases holder
      exact absurd allOfQ all

theorem State.StagingSound.stage (h : s.StagingSound) {c : ChannelId}
    (held : (s.holder (groupOf c)).isSome = true) (x : Option StagedChannel) :
    (s.setStaging (s.leases.staging.write c x)).StagingSound := by
  obtain ⟨channels, hubs⟩ := h
  refine ⟨fun d staged => ?_, hubs⟩
  by_cases same : d = c
  · exact same ▸ held
  · rw [State.setStaging_leases, Table.read_write_of_ne _ _ same] at staged
    exact channels d staged

/-- R141: the covered buffers are emptied. -/
theorem State.StagingSound.applyCommit (h : s.StagingSound) (scope : CommitScope) :
    (s.applyCommit scope).StagingSound := by
  obtain ⟨channels, hubs⟩ := h
  have holders (g : GroupId) : (s.applyCommit scope).holder g = s.holder g := by
    rw [State.holder, State.group, s.groups_applyCommit scope, State.holder, State.group]
  have staging : (s.applyCommit scope).leases.staging = s.stagingAfter scope := by
    cases scope <;> rfl
  refine ⟨fun c staged => ?_, fun staged => ?_⟩
  · rw [staging, State.stagingAfter, Table.read_tabulate] at staged
    rw [holders]
    split at staged
    · cases staged
    · exact channels c staged
  · cases scope with
    | none => cases staged
    | some g => exact hubs staged

theorem State.stagingSound_resetBlocks (s : State) (inReset : Bool) :
    (s.resetBlocks inReset).StagingSound := by
  refine ⟨fun c staged => ?_, nofun⟩
  have empty : (s.resetBlocks inReset).leases.staging.read c = none := Table.read_fill ..
  rw [empty] at staged
  cases staged

theorem State.StagingSound.resets (h : s.StagingSound) (falls : s.Resets t) : t.StagingSound := by
  cases falls with
  | hub => exact s.stagingSound_resetBlocks true
  | port p reset => exact h

theorem State.StagingSound.adjusts (h : s.StagingSound) (change : s.Adjusts t) : t.StagingSound := by
  cases change with
  | rise => exact s.stagingSound_resetBlocks false
  | withdraw g keep => exact h.setGroup (.inl rfl)
  | grant p g kind termMs attached free =>
    exact h.setGroup (.inr ⟨by rw [State.holder, free]; rfl, rfl⟩)
  | queueLease holder g q =>
    have queued : (s.setGroup g { s.group g with waiting := (s.group g).waiting ++ [q] }).StagingSound :=
      h.setGroup (.inl rfl)
    exact queued.of_leases rfl
  | stage c x held => exact h.stage held x
  | stageHub p x held => exact ⟨h.1, fun _ => ⟨p, held⟩⟩
  | _ => exact h

theorem stagingSound_kept : Kept State.StagingSound where
  adjusts := State.StagingSound.adjusts
  disturbs := by
    intro s t h change
    cases change with
    | adjusts quiet => exact h.adjusts quiet
    | renew p g kind termMs held uncontended =>
      exact h.setGroup (.inl (State.holds_iff.mp held).symm)
    | release p g held => exact h.releaseGroup held
    | conclude c o => exact h.of_leases (s.leases_concluded c o)
    | applyCommit scope => exact h.applyCommit scope
    | _ => exact h.of_leases (by simp)
  complete := fun h _ _ => h.of_leases (by simp)
  start := fun h _ _ => h

end Staging

/-- Settles O58. -/
theorem stepKeepsLeasesAndStaging : Obligations.StepKeepsLeasesAndStaging :=
  fun _ _ waits staging next =>
    ⟨waitListsSound_kept.step State.WaitListsSound.resets waits next,
      stagingSound_kept.step State.StagingSound.resets staging next⟩

end Sys2Proof.Machine
end

section
/-!
PROOF. The events: each deadline's expiry reached and not (log 3), the edges on the oscillator and on GATE, and
the tick; the statements PhaseDeadlinesEndPhases, EdgesCountOpenAndClose, ResponseBecomesReady and
TickAndDeadlineExpiries.
-/
namespace Sys2Proof.Machine

/-! ## The engine's deadlines (R27, R28, R29, R33, R35) -/

section Deadlines

variable {s : State} {c : Conversion} {opened stallAt bound d : Time}

/-- The deadline `d` of a phase that the pair deadline bounds (R35). -/
def Conversion.PairedUntil (c : Conversion) (d : Time) : Prop :=
  c.phase = .arm d ∨ (c.gate = .external ∧ ∃ opened stallAt, c.phase = .count opened stallAt d)

theorem State.settleExpiry_of_reached (conv : s.engine.conversion = some c) (phase : c.phase = .settle d)
    (due : reached s.hubTime d = true) : s.settleExpiry = s.endSettle c := by
  simp only [State.settleExpiry, conv, phase, due, if_true]

theorem State.settleExpiry_of_not (early : ∀ c d, s.engine.conversion = some c → c.phase = .settle d →
    reached s.hubTime d = false) : s.settleExpiry = s := by
  unfold State.settleExpiry
  split
  next c conv =>
    split
    next d phase => rw [early c d conv phase, if_neg Bool.false_ne_true]
    all_goals rfl
  next => rfl

theorem State.gateExpiry_of_reached (conv : s.engine.conversion = some c)
    (phase : c.phase = .count opened stallAt bound) (timebase : c.gate = .timebase)
    (due : reached s.hubTime bound = true) : s.gateExpiry = s.endCount c .closed
      { count := s.engine.edgeCounter, time := (s.channel c.channel).settings.gateLength.setWidth 32 } := by
  simp only [State.gateExpiry, conv, phase, timebase, due, and_self, if_true]

theorem State.gateExpiry_of_not (early : ∀ c o st d, s.engine.conversion = some c →
    c.phase = .count o st d → c.gate = .timebase → reached s.hubTime d = false) : s.gateExpiry = s := by
  unfold State.gateExpiry
  split
  next c conv =>
    split
    next o st d phase =>
      refine if_neg fun ⟨timebase, due⟩ => ?_
      rw [early c o st d conv phase timebase] at due
      cases due
    all_goals rfl
  next => rfl

theorem State.stallExpiry_of_reached (conv : s.engine.conversion = some c)
    (phase : c.phase = .count opened stallAt bound) (due : reached s.hubTime stallAt = true) :
    s.stallExpiry = s.endCount c .stalled (s.counted opened) := by
  simp only [State.stallExpiry, conv, phase, due, if_true]

theorem State.stallExpiry_of_not (early : ∀ c o st d, s.engine.conversion = some c →
    c.phase = .count o st d → reached s.hubTime st = false) : s.stallExpiry = s := by
  unfold State.stallExpiry
  split
  next c conv =>
    split
    next o st d phase => rw [early c o st d conv phase, if_neg Bool.false_ne_true]
    all_goals rfl
  next => rfl

theorem State.pairExpiry_of_reached (conv : s.engine.conversion = some c) (paired : c.PairedUntil d)
    (due : reached s.hubTime d = true) : s.pairExpiry = s.gateTimeout c := by
  rcases paired with phase | ⟨external, o, st, phase⟩
  · simp only [State.pairExpiry, conv, phase, due, if_true]
  · simp only [State.pairExpiry, conv, phase, external, due, and_self, if_true]

theorem State.pairExpiry_of_not (early : ∀ c d, s.engine.conversion = some c → c.PairedUntil d →
    reached s.hubTime d = false) : s.pairExpiry = s := by
  unfold State.pairExpiry
  split
  next c conv =>
    split
    next d phase => rw [early c d conv (.inl phase), if_neg Bool.false_ne_true]
    next o st d phase =>
      refine if_neg fun ⟨external, due⟩ => ?_
      rw [early c d conv (.inr ⟨external, o, st, phase⟩)] at due
      cases due
    next => rfl
  next => rfl

/-! ## Edges (R28, R30, R33, R34) -/

theorem State.endSettle_of_timebase (timebase : c.gate = .timebase) : s.endSettle c =
    s.openGate c (s.hubTime + (s.channel c.channel).settings.gateLength.setWidth 32) := by
  simp only [State.endSettle, timebase]

theorem State.endSettle_of_external (external : c.gate = .external) : s.endSettle c =
    s.setConversion (some { c with phase := .arm (s.hubTime + msToUs s.config.extWaitMs) }) := by
  simp only [State.endSettle, external]

theorem State.oscillatorEdge_of_room (conv : s.engine.conversion = some c)
    (phase : c.phase = .count opened stallAt bound) (room : s.engine.edgeCounter ≠ 16777215) :
    s.oscillatorEdge = (s.setEdgeCounter (s.engine.edgeCounter + 1)).setConversion
      (some { c with phase := .count opened (s.hubTime + Config.stallLimit) bound }) := by
  simp only [State.oscillatorEdge, conv, phase]
  exact if_neg room

theorem State.oscillatorEdge_of_full (conv : s.engine.conversion = some c)
    (phase : c.phase = .count opened stallAt bound) (full : s.engine.edgeCounter = 16777215) :
    s.oscillatorEdge =
      s.endCount c .overflowed { count := 16777215, time := s.hubTime - opened } := by
  simp only [State.oscillatorEdge, conv, phase, State.counted, full]
  exact if_pos rfl

theorem State.oscillatorEdge_of_closed (closed : ∀ c o st d, s.engine.conversion = some c →
    c.phase ≠ .count o st d) : s.oscillatorEdge = s := by
  unfold State.oscillatorEdge
  split
  next c conv =>
    split
    next o st d phase => exact absurd phase (closed c o st d conv)
    all_goals rfl
  next => rfl

theorem State.gateEdge_of_arm {pair : Time} (conv : s.engine.conversion = some c)
    (phase : c.phase = .arm pair) : s.gateEdge = s.openGate c pair := by
  simp only [State.gateEdge, conv, phase]

theorem State.gateEdge_of_closes (conv : s.engine.conversion = some c)
    (phase : c.phase = .count opened stallAt bound) (external : c.gate = .external)
    (long : 50 ≤ (s.hubTime - opened).toNat) :
    s.gateEdge = s.endCount c .closed (s.counted opened) := by
  simp only [State.gateEdge, conv, phase, external]
  exact if_pos ⟨trivial, long⟩

theorem State.gateEdge_of_not (conv : s.engine.conversion = some c)
    (phase : c.phase = .count opened stallAt bound)
    (stays : c.gate = .timebase ∨ (s.hubTime - opened).toNat < 50) : s.gateEdge = s := by
  simp only [State.gateEdge, conv, phase]
  refine if_neg fun ⟨external, long⟩ => ?_
  rcases stays with timebase | short
  · rw [timebase] at external
    cases external
  · exact Nat.not_le.mpr short long

theorem State.gateEdge_of_settling (settling : ∀ c, s.engine.conversion = some c →
    ∃ d, c.phase = .settle d) : s.gateEdge = s := by
  unfold State.gateEdge
  split
  next c conv =>
    obtain ⟨d, phase⟩ := settling c conv
    simp only [phase]
  next => rfl

end Deadlines

/-- Settles O46: the four deadlines, each reached and not. -/
theorem phaseDeadlinesEndPhases : Obligations.PhaseDeadlinesEndPhases := by
  intro s
  refine ⟨?settle, ?count, ?pair, fun early => congrArg _ (State.settleExpiry_of_not early),
    fun early => congrArg _ (State.gateExpiry_of_not early),
    fun early => congrArg _ (State.stallExpiry_of_not early),
    fun early => congrArg _ (State.pairExpiry_of_not early)⟩
  case settle =>
    intro c d conv phase due
    have ends := State.settleExpiry_of_reached conv phase due
    exact ⟨fun timebase => congrArg _ (ends.trans (State.endSettle_of_timebase timebase)),
      fun external => congrArg _ (ends.trans (State.endSettle_of_external external))⟩
  case count =>
    intro c opened stallAt bound conv phase
    exact ⟨fun timebase due => congrArg _ (State.gateExpiry_of_reached conv phase timebase due),
      fun due => congrArg _ (State.stallExpiry_of_reached conv phase due)⟩
  case pair =>
    intro c d conv paired due
    exact congrArg _ (State.pairExpiry_of_reached conv paired due)

/-- Settles O47: the edges in an open gate, in an arm phase, and in every other phase. -/
theorem edgesCountOpenAndClose : Obligations.EdgesCountOpenAndClose := by
  intro s
  refine ⟨?count, fun c pair conv phase => congrArg _ (State.gateEdge_of_arm conv phase),
    fun closed => congrArg _ (State.oscillatorEdge_of_closed closed),
    fun settling => congrArg _ (State.gateEdge_of_settling settling)⟩
  case count =>
    intro c opened stallAt bound conv phase
    exact ⟨fun room => congrArg _ (State.oscillatorEdge_of_room conv phase room),
      fun full => congrArg _ (State.oscillatorEdge_of_full conv phase full),
      fun external long => congrArg _ (State.gateEdge_of_closes conv phase external long),
      fun stays => congrArg _ (State.gateEdge_of_not conv phase stays)⟩

/-! ## The other deadlines (R37 to R39, R148, R152, R166), and the tick (R21) -/

section Expiries

variable {s : State}

theorem State.readyExpires_of_reached {p : PortId} {r : Response} {d : Time}
    (held : (s.port p).held = .preparing r d) (due : reached s.hubTime d = true) :
    s.readyExpires p =
      s.setPort p { s.port p with held := .ready (sealSlot r (s.linkFlags p r.isRepeat)) } := by
  simp only [State.readyExpires, held, due, if_true]

theorem State.readyExpires_of_not {p : PortId} (early : ∀ r d, (s.port p).held = .preparing r d →
    reached s.hubTime d = false) : s.readyExpires p = s := by
  unfold State.readyExpires
  split
  next r d held => rw [early r d held, if_neg Bool.false_ne_true]
  all_goals rfl

theorem State.holdOffExpires_of_reached {r : RefId} {d : Time} (armed : (s.health r).holdOff = some d)
    (due : reached s.hubTime d = true) :
    s.holdOffExpires r = s.setHealth r { s.health r with state := .unknown, holdOff := none } := by
  simp only [State.holdOffExpires, armed, due, if_true]

theorem State.holdOffExpires_of_not {r : RefId} (early : ∀ d, (s.health r).holdOff = some d →
    reached s.hubTime d = false) : s.holdOffExpires r = s := by
  unfold State.holdOffExpires
  split
  next d armed => rw [early d armed, if_neg Bool.false_ne_true]
  next => rfl

theorem State.cacheExpires_of_reached {r : RefId} {d : Time} (armed : (s.health r).cacheExpiry = some d)
    (due : reached s.hubTime d = true) :
    s.cacheExpires r = s.setHealth r { s.health r with cache := none, cacheExpiry := none } := by
  simp only [State.cacheExpires, armed, due, if_true]

theorem State.cacheExpires_of_not {r : RefId} (early : ∀ d, (s.health r).cacheExpiry = some d →
    reached s.hubTime d = false) : s.cacheExpires r = s := by
  unfold State.cacheExpires
  split
  next d armed => rw [early d armed, if_neg Bool.false_ne_true]
  next => rfl

theorem State.bindWindowExpires_of_reached {p : PortId} {client : Word} {d : Time}
    (binding : (s.port p).state = .binding client d) (due : reached s.hubTime d = true) :
    s.bindWindowExpires p = s.setPort p { s.port p with state := .linked } := by
  simp only [State.bindWindowExpires, binding, due, if_true]

theorem State.bindWindowExpires_of_not {p : PortId}
    (early : ∀ client d, (s.port p).state = .binding client d → reached s.hubTime d = false) :
    s.bindWindowExpires p = s := by
  unfold State.bindWindowExpires
  split
  next client d binding => rw [early client d binding, if_neg Bool.false_ne_true]
  all_goals rfl

theorem State.silenceExpires_of_reached {p : PortId} {a : Attachment} {d : Time}
    (attached : (s.port p).state = .attached a) (armed : a.silenceDeadline = some d)
    (due : reached s.hubTime d = true) :
    s.silenceExpires p = s.tearDown p fun c => c.detached .silence := by
  obtain ⟨client, attention, silenceMs, silenceDeadline⟩ := a
  cases armed
  simp only [State.silenceExpires, attached, due, if_true]

theorem State.silenceExpires_of_not {p : PortId} (early : ∀ a d, (s.port p).state = .attached a →
    a.silenceDeadline = some d → reached s.hubTime d = false) : s.silenceExpires p = s := by
  unfold State.silenceExpires
  split
  next d attached => rw [early _ d attached rfl, if_neg Bool.false_ne_true]
  all_goals rfl

theorem State.tick_of_running (running : s.inReset = false) : s.tick = s.setHubTime (s.hubTime + 1) :=
  if_neg (by rw [running]; decide)

theorem State.tick_of_reset (reset : s.inReset = true) : s.tick = s := if_pos reset

end Expiries

/-- Settles O12. -/
theorem responseBecomesReady : Obligations.ResponseBecomesReady := by
  intro s p
  refine ⟨fun r d held due => congrArg _ (State.readyExpires_of_reached held due),
    fun r d held early => congrArg _ (State.readyExpires_of_not fun r' d' held' => ?_),
    fun other => congrArg _ (State.readyExpires_of_not fun r d held => absurd held (other r d))⟩
  rw [held] at held'
  cases held'
  exact early

/-- Settles O51: the tick, then the four deadlines, each reached and not. -/
theorem tickAndDeadlineExpiries : Obligations.TickAndDeadlineExpiries := by
  intro s
  exact ⟨fun running => congrArg _ (State.tick_of_running running),
    fun reset => congrArg _ (State.tick_of_reset reset),
    fun r d armed due => congrArg _ (State.holdOffExpires_of_reached armed due),
    fun r early => congrArg _ (State.holdOffExpires_of_not early),
    fun r d armed due => congrArg _ (State.cacheExpires_of_reached armed due),
    fun r early => congrArg _ (State.cacheExpires_of_not early),
    fun p client d binding due => congrArg _ (State.bindWindowExpires_of_reached binding due),
    fun p early => congrArg _ (State.bindWindowExpires_of_not early),
    fun p a d attached armed due => congrArg _ (State.silenceExpires_of_reached attached armed due),
    fun p early => congrArg _ (State.silenceExpires_of_not early)⟩

end Sys2Proof.Machine
end

section
/-!
PROOF. Hub reset (R189, R160) and the fall and rise of PRSTn (R146): the statements HubResetGivesResetValues,
HubResetHoldsStill and PortResetTakesPortOffline; then what a port that is not ATTACHED holds, the statement
StepKeepsUnattachedPortsEmpty.
-/
namespace Sys2Proof.Machine

/-! ## The reset values (R189) -/

section ResetValues

variable (s : State) (inReset : Bool)

theorem State.port_resetBlocks (p : PortId) : (s.resetBlocks inReset).port p = (s.port p).hubReset :=
  Table.read_map ..

theorem State.atResetValues_resetBlocks : (s.resetBlocks inReset).AtResetValues where
  selection := rfl
  channels := fun _ => Table.read_fill ..
  references := fun r => by cases r <;> rfl
  settings := ⟨rfl, rfl⟩
  hubTime := rfl
  engine := ⟨rfl, rfl, fun r => by cases r <;> rfl⟩
  queue := ⟨rfl, rfl⟩
  schedules := fun _ => Table.read_fill ..
  results := fun _ => Table.read_fill ..
  completions := fun _ => Table.read_fill ..
  watches := fun p => by
    have fresh : (s.resetBlocks inReset).portWatch p = PortWatch.reset := Table.read_fill ..
    rw [fresh]
    exact ⟨rfl, fun _ => Table.read_fill .., fun _ => Table.read_fill ..⟩
  leases := fun _ => Table.read_fill ..
  staging := ⟨fun _ => Table.read_fill .., rfl⟩

theorem PortController.afterHubReset (c : PortController) : c.hubReset.AfterHubReset ∧
    c.hubReset.state = if c.state = .offline then .offline else .linked :=
  ⟨⟨rfl, rfl, rfl, rfl, rfl, rfl⟩, rfl⟩

/-- No port is ATTACHED after a hub reset. -/
theorem PortController.isAttached_hubReset (c : PortController) : c.hubReset.state.isAttached = false := by
  rw [(PortController.afterHubReset c).2]
  split <;> rfl

theorem State.isAttached_resetBlocks (p : PortId) : (s.resetBlocks inReset).isAttached p = false := by
  rw [State.isAttached, State.port_resetBlocks, PortController.isAttached_hubReset]

theorem State.holdsNothing_resetBlocks (p : PortId) : (s.resetBlocks inReset).HoldsNothing p := by
  have values := s.atResetValues_resetBlocks inReset
  refine ⟨State.holdings_eq_zero_iff.mpr ⟨values.completions p, ?_, fun g q hq => ?_⟩, fun i x found => ?_,
    Table.read_fill .., fun g => ?_⟩
  · rw [values.queue.1]
    exact nofun
  · rw [values.leases g] at hq
    cases hq
  · rw [values.schedules i] at found
    cases found
  · rw [State.holder, values.leases g]
    exact nofun

theorem State.gives_resetValues : (s.resetBlocks inReset).inReset = inReset ∧
    (s.resetBlocks inReset).AtResetValues ∧
    (∀ p, ((s.resetBlocks inReset).port p).AfterHubReset ∧
      ((s.resetBlocks inReset).port p).state =
        if (s.port p).state = .offline then .offline else .linked) ∧
    (∀ p, (s.resetBlocks inReset).atnAsserted p = false) ∧
    (s.resetBlocks inReset).pending = s.pending :=
  ⟨rfl, s.atResetValues_resetBlocks inReset,
    fun p => State.port_resetBlocks s inReset p ▸ PortController.afterHubReset (s.port p),
    fun p => (s.holdsNothing_resetBlocks inReset p).atnAsserted, rfl⟩

end ResetValues

theorem State.releaseHubReset_of_reset {s : State} (reset : s.inReset = true) :
    s.releaseHubReset = s.resetBlocks false := if_pos reset

theorem State.releaseHubReset_of_running {s : State} (running : s.inReset = false) :
    s.releaseHubReset = s := if_neg (by rw [running]; decide)

/-- Settles O2. -/
theorem hubResetGivesResetValues : Obligations.HubResetGivesResetValues :=
  ⟨fun s => ⟨_, rfl, s.gives_resetValues true⟩,
    fun s reset => ⟨_, congrArg Host.Outcome.next (State.releaseHubReset_of_reset reset),
      s.gives_resetValues false⟩,
    fun _ running => congrArg Host.Outcome.next (State.releaseHubReset_of_running running)⟩

/-! ## While RESET is low nothing moves (R189) -/

section HoldsStill

variable {s : State}

/-- What the commands find while RESET is low: no transaction, no deadline, no conversion, no entry. -/
structure State.Still (s : State) : Prop where
  transaction : ∀ p, (s.port p).transaction = none
  held : ∀ p, (s.port p).held = .none
  state : ∀ p, (s.port p).state = .offline ∨ (s.port p).state = .linked
  leases : ∀ g, (s.group g).lease = .free
  schedules : ∀ i, s.schedule i = none
  health : ∀ r, (s.health r).holdOff = none ∧ (s.health r).cacheExpiry = none
  idle : s.engine.conversion = none
  entries : s.entries = []

theorem State.still_resetBlocks (s : State) : (s.resetBlocks true).Still := by
  have values := s.atResetValues_resetBlocks true
  have port (p : PortId) : (s.resetBlocks true).port p = (s.port p).hubReset := s.port_resetBlocks true p
  refine ⟨fun p => by rw [port]; rfl, fun p => by rw [port]; rfl, fun p => ?_, fun g => ?_,
    values.schedules, fun r => ?_, rfl, rfl⟩
  · rw [port, (PortController.afterHubReset _).2]
    split
    · exact .inl rfl
    · exact .inr rfl
  · rw [values.leases g]
  · rw [values.engine.2.2 r]
    exact ⟨rfl, rfl⟩

theorem State.ResetSound.still (h : s.ResetSound) (reset : s.inReset = true) : s.Still :=
  (h reset).symm ▸ s.still_resetBlocks

theorem State.leaseExpires_of_free {g : GroupId} (free : (s.group g).lease = .free) :
    s.leaseExpires g = s := by
  unfold State.leaseExpires
  rw [free]

theorem State.scheduleDue_of_none {i : ScheduleId} (none : s.schedule i = none) :
    s.scheduleDue i = s := by
  unfold State.scheduleDue
  rw [none]

theorem State.agingCapExpires_of_empty (empty : s.entries = []) (position : Fin 24) :
    s.agingCapExpires position = s := by
  rw [State.agingCapExpires, empty, List.modify_nil, ← empty]
  rfl

theorem State.Still.event (h : s.Still) (reset : s.inReset = true) (sound : s.ResetSound) {i : Instr}
    (event : i.request = none) (release : i ≠ .hubResetRelease) (fall : ∀ p, i ≠ .portResetAssert p)
    (rise : ∀ p, i ≠ .portResetRelease p) : exec i s = .next s := by
  obtain ⟨transaction, held, state, leases, schedules, health, idle, entries⟩ := h
  have notConverting {c : Conversion} (conv : s.engine.conversion = some c) : False := by
    rw [idle] at conv
    cases conv
  cases i with
  | hubResetRelease => exact absurd rfl release
  | portResetAssert p => exact absurd rfl (fall p)
  | portResetRelease p => exact absurd rfl (rise p)
  | hubReset => exact congrArg _ (sound reset).symm
  | transactionStart p => exact congrArg _ (State.beginTransaction_of_ignored (.inl reset))
  | shortTransaction p sdi => exact congrArg _ (State.endTransaction_none (transaction p) sdi)
  | linkError p sdi => exact congrArg _ (State.endTransaction_none (transaction p) sdi)
  | requestDiscarded p sdi => exact congrArg _ (State.endTransaction_none (transaction p) sdi)
  | repeatRequest p sdi => exact congrArg _ (State.endTransaction_none (transaction p) sdi)
  | unknownCommand p sdi => exact congrArg _ (State.endTransaction_none (transaction p) sdi)
  | responseReady p =>
    exact congrArg _ (State.readyExpires_of_not fun r d preparing => by rw [held p] at preparing; cases preparing)
  | bindWindowExpiry p =>
    refine congrArg _ (State.bindWindowExpires_of_not fun client d binding => ?_)
    rcases state p with offline | linked
    · rw [offline] at binding; cases binding
    · rw [linked] at binding; cases binding
  | silenceExpiry p =>
    refine congrArg _ (State.silenceExpires_of_not fun a d attached => ?_)
    rcases state p with offline | linked
    · rw [offline] at attached; cases attached
    · rw [linked] at attached; cases attached
  | leaseExpiry g => exact congrArg _ (State.leaseExpires_of_free (leases g))
  | scheduleDue i => exact congrArg _ (State.scheduleDue_of_none (schedules i))
  | holdOffExpiry r =>
    exact congrArg _ (State.holdOffExpires_of_not fun d armed => by rw [(health r).1] at armed; cases armed)
  | cacheExpiry r =>
    exact congrArg _ (State.cacheExpires_of_not fun d armed => by rw [(health r).2] at armed; cases armed)
  | agingCapExpiry position => exact congrArg _ (State.agingCapExpires_of_empty entries position)
  | settleEnd => exact congrArg _ (State.settleExpiry_of_not fun _ _ conv => (notConverting conv).elim)
  | gateClose => exact congrArg _ (State.gateExpiry_of_not fun _ _ _ _ conv => (notConverting conv).elim)
  | stall => exact congrArg _ (State.stallExpiry_of_not fun _ _ _ _ conv => (notConverting conv).elim)
  | pairDeadlineExpiry =>
    exact congrArg _ (State.pairExpiry_of_not fun _ _ conv => (notConverting conv).elim)
  | oscillatorEdge =>
    exact congrArg _ (State.oscillatorEdge_of_closed fun _ _ _ _ conv => (notConverting conv).elim)
  | gateRisingEdge => exact congrArg _ (State.gateEdge_of_settling fun _ conv => (notConverting conv).elim)
  | hubTimeAdvance => exact congrArg _ (State.tick_of_reset reset)
  | _ => cases event

end HoldsStill

/-- Settles O3: a command of R180 finds no transaction to end, and an event nothing to act on. -/
theorem hubResetHoldsStill : Obligations.HubResetHoldsStill := by
  intro s i reset sound release fall rise
  have still := sound.still reset
  cases row : i.request with
  | none => exact still.event reset sound row release fall rise
  | some request =>
    obtain ⟨p, tag, c⟩ := request
    rw [exec_of_request row, State.endGood_none (still.transaction p)]

/-! ## PRSTn (R146, R175) -/

section PortReset

variable {s : State} {p : PortId}

theorem State.isAttached_iff : s.isAttached p = true ↔ ∃ a, (s.port p).state = .attached a := by
  rw [State.isAttached]
  cases (s.port p).state <;> simp [PortState.isAttached]

theorem State.assertPortReset_of_attached (running : s.inReset = false) (attached : s.isAttached p = true) :
    s.assertPortReset p = s.tearDown p PortController.portReset := by
  obtain ⟨a, state⟩ := State.isAttached_iff.mp attached
  simp only [State.assertPortReset, running, Bool.false_eq_true, if_false, state]

theorem State.assertPortReset_of_unattached (running : s.inReset = false)
    (online : (s.port p).state ≠ .offline) (unattached : s.isAttached p = false) :
    s.assertPortReset p = s.setPort p (s.port p).portReset := by
  unfold State.assertPortReset
  rw [if_neg (by rw [running]; decide)]
  split
  next a state => rw [State.isAttached_eq p state] at unattached; cases unattached
  next => rfl
  next => rfl
  next offline => exact absurd offline online

theorem State.assertPortReset_of_offline (running : s.inReset = false)
    (offline : (s.port p).state = .offline) : s.assertPortReset p = s := by
  simp only [State.assertPortReset, running, Bool.false_eq_true, if_false, offline]

end PortReset

/-- Settles O4. -/
theorem portResetTakesPortOffline : Obligations.PortResetTakesPortOffline := by
  refine ⟨?falls, fun s p running offline => congrArg _ (State.assertPortReset_of_offline running offline),
    fun s p reset => congrArg _ (if_pos reset), ?rises⟩
  case falls =>
    intro s p running online offline t
    exact ⟨fun attached => ⟨congrArg _ (State.assertPortReset_of_attached running attached),
        s.port_tearDown p _, s.holdsNothing_tearDown p _, fun q other => s.port_tearDown_of_ne p _ other⟩,
      fun unattached => congrArg _ (State.assertPortReset_of_unattached running online unattached)⟩
  case rises =>
    intro s p
    exact ⟨fun offline => congrArg _ (if_pos offline), fun online => congrArg _ (if_neg online)⟩

/-! ## A port that is not ATTACHED holds nothing (R93, R82, R119, R133) -/

section Accounts

variable {s t : State}

/-- Where the accounts are sound, a port that some block holds something for is ATTACHED. -/
theorem State.AccountsSound.attached (h : s.AccountsSound) {p : PortId} (engaged : s.Engaged p) :
    s.isAttached p = true :=
  engaged.elim id fun something => Classical.byContradiction fun unattached =>
    something (h p (Bool.eq_false_iff.mpr unattached))

/-- What a block holds for a port, part by part. -/
structure State.Parts (s : State) (p : PortId) : Prop where
  records : s.cq p = []
  waiters : ∀ e ∈ s.entries, ∀ w ∈ e.waiters, w.port ≠ p
  requests : ∀ g, ∀ q ∈ (s.group g).waiting, q.port ≠ p
  schedules : ∀ i x, s.schedule i = some x → x.owner ≠ p
  watches : s.portWatch p = PortWatch.reset
  groups : ∀ g, s.holder g ≠ some p

theorem State.holdsNothing_iff {p : PortId} : s.HoldsNothing p ↔ s.Parts p := by
  constructor
  · rintro ⟨credits, schedules, watches, groups⟩
    obtain ⟨records, waiters, requests⟩ := State.holdings_eq_zero_iff.mp credits
    exact ⟨records, waiters, requests, schedules, watches, groups⟩
  · rintro ⟨records, waiters, requests, schedules, watches, groups⟩
    exact ⟨State.holdings_eq_zero_iff.mpr ⟨records, waiters, requests⟩, schedules, watches, groups⟩

/-- The accounts, where the ports' attachments stay: to be shown port by port, for a port that is not
ATTACHED. -/
theorem State.AccountsSound.of_ports (h : s.AccountsSound) (ports : t.ports = s.ports)
    (keeps : ∀ p, s.isAttached p = false → s.Parts p → t.Parts p) : t.AccountsSound := by
  intro p unattached
  rw [State.isAttached, State.port, ports] at unattached
  exact State.holdsNothing_iff.mpr (keeps p unattached (State.holdsNothing_iff.mp (h p unattached)))

/-- The port of an engaged party is not one that holds nothing. -/
theorem State.AccountsSound.ne_of_engaged (h : s.AccountsSound) {p q : PortId} (engaged : s.Engaged q)
    (unattached : s.isAttached p = false) : q ≠ p := by
  rintro rfl
  rw [h.attached engaged] at unattached
  cases unattached

/-- The changes of one group: its waiting requests and its holder. -/
theorem State.Parts.setGroup {p : PortId} (h : s.Parts p) {g : GroupId} {x : GroupLease}
    (requests : ∀ q ∈ x.waiting, q.port ≠ p) (holder : x.lease.holder ≠ some p) :
    (s.setGroup g x).Parts p := by
  refine ⟨h.records, h.waiters, fun k => ?_, h.schedules, h.watches, fun k => ?_⟩
  · by_cases same : k = g
    · subst same
      rwa [State.group_setGroup]
    · rw [State.group_setGroup_of_ne _ _ same]
      exact h.requests k
  · rw [State.holder_setGroup]
    split
    · exact holder
    · exact h.groups k

theorem State.Parts.setPortWatch {p q : PortId} (h : s.Parts p) {w : PortWatch}
    (fresh : q = p → w = PortWatch.reset) : (s.setPortWatch q w).Parts p := by
  refine ⟨h.records, h.waiters, h.requests, h.schedules, ?_, h.groups⟩
  by_cases same : p = q
  · subst same
    rw [State.portWatch_setPortWatch, fresh rfl]
  · rw [State.portWatch_setPortWatch_of_ne _ _ same, h.watches]

theorem State.Parts.setSchedule {p : PortId} (h : s.Parts p) {i : ScheduleId} {x : Option Schedule}
    (owner : ∀ y, x = some y → y.owner ≠ p) : (s.setSchedule i x).Parts p := by
  refine ⟨h.records, h.waiters, h.requests, fun j y found => ?_, h.watches, h.groups⟩
  by_cases same : j = i
  · subst same
    rw [State.schedule_setSchedule] at found
    exact owner y found
  · rw [State.schedule_setSchedule_of_ne _ _ same] at found
    exact h.schedules j y found

/-- Fewer waiters. -/
theorem State.Parts.of_entries {p : PortId} (h : s.Parts p)
    (fewer : ∀ e ∈ t.entries, ∀ w ∈ e.waiters, ∃ f ∈ s.entries, w ∈ f.waiters)
    (records : t.cq p = s.cq p) (leases : t.leases = s.leases) (schedules : t.schedules = s.schedules)
    (watch : t.watch = s.watch) : t.Parts p := by
  obtain ⟨noRecords, waiters, requests, owners, watches, groups⟩ := h
  refine ⟨records.trans noRecords, fun e he w hw => ?_, ?_, ?_, ?_, ?_⟩
  · obtain ⟨f, hf, old⟩ := fewer e he w hw
    exact waiters f hf w old
  · unfold State.group
    rw [leases]
    exact requests
  · unfold State.schedule
    rw [schedules]
    exact owners
  · rw [State.portWatch, watch]
    exact watches
  · unfold State.holder State.group
    rw [leases]
    exact groups

theorem State.AccountsSound.adjusts (h : s.AccountsSound) (change : s.Adjusts t) : t.AccountsSound := by
  cases change with
  | controller p c empty =>
    intro q unattached
    by_cases same : q = p
    · subst same
      rw [State.isAttached, State.port_setPort] at unattached
      by_cases attached : s.isAttached q = true
      · exact (empty unattached attached).setPort q c
      · exact (h q (Bool.eq_false_iff.mpr attached)).setPort q c
    · rw [State.isAttached, State.port_setPort_of_ne _ _ same] at unattached
      exact (h q unattached).setPort p c
  | rise => exact fun p _ => s.holdsNothing_resetBlocks false p
  | aging position =>
    refine h.of_ports rfl fun p _ parts => parts.of_entries (fun f hf w hw => ?_) rfl rfl rfl rfl
    obtain ⟨j, bound, rfl⟩ := List.mem_iff_getElem.mp (show f ∈ s.entries.modify _ _ from hf)
    have inside : j < s.entries.length := by simpa using bound
    refine ⟨s.entries[j], List.getElem_mem inside, ?_⟩
    rw [List.getElem_modify] at hw
    split at hw
    · rwa [(Entry.agingExpired_frame _ _).2] at hw
    · exact hw
  | schedule i x owner =>
    exact h.of_ports rfl fun p unattached parts => parts.setSchedule fun y same =>
      Option.some.inj same ▸ h.ne_of_engaged owner unattached
  | freePlace i => exact h.of_ports rfl fun p _ parts => parts.setSchedule nofun
  | dropSchedules q =>
    refine h.of_ports rfl fun p _ parts => { parts with schedules := fun i x found => ?_ }
    rw [State.schedule, State.dropSchedules, State.setSchedules_schedules, Table.read_map,
      Option.filter_eq_some_iff] at found
    exact parts.schedules i x found.1
  | watch q w engaged sound =>
    refine h.of_ports rfl fun p unattached parts => parts.setPortWatch fun same => ?_
    exact engaged.resolve_right fun engaged => h.ne_of_engaged engaged unattached same
  | records q l left =>
    refine h.of_ports rfl fun p _ parts => { parts with records := ?_ }
    by_cases same : p = q
    · subst same
      rw [State.cq_setCq]
      rw [parts.records] at left
      exact List.sublist_nil.mp left
    · rw [State.cq_setCq_of_ne _ _ same, parts.records]
  | withdraw g keep =>
    exact h.of_ports rfl fun p _ parts => parts.setGroup
      (fun q hq => parts.requests g q (List.mem_filter.mp hq).1) (parts.groups g)
  | grant q g kind termMs attached free =>
    exact h.of_ports rfl fun p unattached parts => parts.setGroup (parts.requests g) fun same =>
      h.ne_of_engaged (.of_attached attached) unattached (Option.some.inj same)
  | queueLease holder g q attached held other fresh tag credit =>
    refine h.of_ports rfl fun p unattached parts => ?_
    have queued : (s.setGroup g { s.group g with waiting := (s.group g).waiting ++ [q] }).Parts p := by
      refine parts.setGroup (fun r hr => ?_) (parts.groups g)
      rcases List.mem_append.mp hr with old | new
      · exact parts.requests g r old
      · rw [List.mem_singleton.mp new]
        exact h.ne_of_engaged (.of_attached attached) unattached
    exact queued.setPortWatch fun same =>
      absurd same (h.ne_of_engaged (.of_holder held) unattached)
  | _ => exact h.of_ports rfl fun p _ parts => { parts with }

/-- R52, R53: the waiter belongs to a port that is served. -/
theorem State.mem_enqueue {c : ChannelId} {gate : GateSource} {w x : Waiter} {e : Entry}
    (he : e ∈ (s.enqueue c gate w).entries) (hx : x ∈ e.waiters) :
    x = w ∨ ∃ f ∈ s.entries, x ∈ f.waiters := by
  unfold State.enqueue at he
  split at he
  next =>
    obtain ⟨f, hf, rfl⟩ := List.mem_map.mp (show e ∈ joinEntry c gate w s.entries from he)
    split at hx
    · rcases List.mem_append.mp hx with old | new
      · exact .inr ⟨f, hf, old⟩
      · exact .inl (List.mem_singleton.mp new)
    · exact .inr ⟨f, hf, hx⟩
  next =>
    rcases List.mem_append.mp (show e ∈ s.entries ++ [s.newEntry c gate w] from he) with old | new
    · exact .inr ⟨e, old, hx⟩
    · rw [List.mem_singleton.mp new] at hx
      exact .inl (List.mem_singleton.mp hx)

theorem State.AccountsSound.enqueue (h : s.AccountsSound) {w : Waiter} (engaged : s.Engaged w.port)
    (c : ChannelId) (gate : GateSource) : (s.enqueue c gate w).AccountsSound := by
  refine h.of_ports (by simp) fun p unattached parts => ?_
  have leases : (s.enqueue c gate w).leases = s.leases := by simp
  refine ⟨by simpa [State.cq] using parts.records, fun e he x hx => ?_,
    by simpa [State.group] using parts.requests, by simpa [State.schedule] using parts.schedules,
    by simpa [State.portWatch] using parts.watches,
    by simpa [State.holder, State.group] using parts.groups⟩
  rcases State.mem_enqueue he hx with rfl | ⟨f, hf, old⟩
  · exact h.ne_of_engaged engaged unattached
  · exact parts.waiters f hf x old

theorem State.AccountsSound.removeWaiters (h : s.AccountsSound) (gone : Waiter → Bool) :
    (s.removeWaiters gone).AccountsSound := by
  refine h.of_ports (by simp) fun p _ parts => parts.of_entries (fun e he w hw => ?_)
    (by simp [State.cq]) (by simp) (by simp) (by simp)
  rw [State.entries_removeWaiters] at he
  obtain ⟨f, hf, rfl⟩ := List.mem_map.mp (List.mem_filter.mp he).1
  exact ⟨f, hf, (List.mem_filter.mp hw).1⟩

/-- R129: the new holder had a request waiting, so it is ATTACHED. -/
theorem State.AccountsSound.releaseGroup (h : s.AccountsSound) {q : PortId} {g : GroupId}
    (held : s.holds q g = true) : (s.releaseGroup q g).AccountsSound := by
  refine h.of_ports (by simp) fun p _ parts => ?_
  have others := parts.requests g
  have queue : (s.releaseGroup q g).queue = s.queue := by simp
  refine ⟨?records, by simpa [State.entries] using parts.waiters, fun k r hr => ?requests,
    by simpa [State.schedule] using parts.schedules, ?watches, fun k => ?groups⟩
  case records =>
    rw [State.cq_releaseGroup _ _ _ _ held, parts.records]
    cases waiting : (s.group g).waiting with
    | nil => rfl
    | cons x rest => exact if_neg (others x (waiting ▸ List.mem_cons_self))
  case requests =>
    rw [State.group_releaseGroup _ _ _ _ held] at hr
    split at hr
    · exact others r (GroupLease.waiting_passed_sublist.subset hr)
    · exact parts.requests k r hr
  case watches =>
    rw [State.portWatch_releaseGroup _ _ _ _ held, parts.watches]
    match waiting : (s.group g).waiting with
    | [] => rfl
    | [_] => rfl
    | x :: y :: rest => exact if_neg (others x (waiting ▸ List.mem_cons_self))
  case groups =>
    rw [State.holder, State.group_releaseGroup _ _ _ _ held]
    split
    · exact GroupLease.holder_passed_ne p others
    · exact parts.groups k

/-- A fan-out delivers to the ports of the entry's waiters. -/
theorem State.Parts.deliver {p : PortId} (h : s.Parts p) {e : Entry}
    (others : ∀ w ∈ e.waiters, w.port ≠ p) (ending : RequestEnd) : (s.deliver e ending).Parts p := by
  refine ⟨?records, by simpa using h.waiters, by simpa [State.group] using h.requests,
    fun i x found => ?schedules, by simpa [State.portWatch] using h.watches,
    by simpa [State.holder, State.group] using h.groups⟩
  case records =>
    rw [State.cq_deliver, h.records, List.filter_eq_nil_iff.mpr fun w hw => by simpa using others w hw]
    rfl
  case schedules =>
    rw [State.schedule_deliver] at found
    obtain ⟨y, old, rfl⟩ := Option.map_eq_some_iff.mp found
    exact h.schedules i y old

theorem State.Parts.setEntries {p : PortId} (h : s.Parts p) {l : List Entry}
    (sub : ∀ e ∈ l, e ∈ s.entries) : (s.setEntries l).Parts p :=
  h.of_entries (fun e he _ hw => ⟨e, sub e he, hw⟩) rfl rfl rfl rfl

theorem State.Parts.stopEngine {p : PortId} (h : s.Parts p) : s.stopEngine.Parts p := { h with }

theorem State.inFlightEntry_mem {e : Entry} (found : s.inFlightEntry = some e) : e ∈ s.entries :=
  List.mem_of_find?_eq_some found

theorem State.Parts.abortInFlight {p : PortId} (h : s.Parts p) : s.abortInFlight.Parts p := by
  unfold State.abortInFlight
  dsimp only
  split
  next => exact h.stopEngine
  next e found =>
    have mem : e ∈ s.entries := State.inFlightEntry_mem found
    refine (h.stopEngine.deliver (h.waiters e mem) .aborted).setEntries fun f hf => ?_
    exact List.mem_of_mem_erase hf

theorem State.Parts.removeDisabled {p : PortId} (h : s.Parts p) : s.removeDisabled.Parts p := by
  have told : ∀ (l : List Entry) (t : State), (∀ e ∈ l, ∀ w ∈ e.waiters, w.port ≠ p) → t.Parts p →
      (l.foldl (fun t e => t.deliver e .disabled) t).Parts p := by
    intro l
    induction l with
    | nil => exact fun _ _ parts => parts
    | cons e l ih =>
      intro t others parts
      exact ih _ (fun f hf => others f (List.mem_cons_of_mem _ hf))
        (parts.deliver (others e List.mem_cons_self) .disabled)
  have delivered := told (s.entries.filter s.disables) s
    (fun e he => h.waiters e (List.mem_filter.mp he).1) h
  exact { delivered with waiters := fun e he => h.waiters e (List.mem_filter.mp he).1 }

theorem State.AccountsSound.concluded (h : s.AccountsSound) (c : Conversion) (o : Outcome) :
    (s.concluded c o).AccountsSound := by
  unfold State.concluded
  split
  next e found =>
    intro p unattached
    rw [State.isAttached, State.port, State.completeEntry_ports] at unattached
    have stopped : s.stopEngine.HoldsNothing p :=
      State.holdsNothing_iff.mpr (State.holdsNothing_iff.mp (h p unattached)).stopEngine
    exact stopped.completeEntry (State.inFlightEntry_mem found) o
  next =>
    refine h.of_ports rfl fun p _ parts => { parts with watches := ?_ }
    refine (Table.read_map ..).trans ?_
    have fresh : s.watch.read p = PortWatch.reset := parts.watches
    rw [State.publish_watch, State.stopEngine_watch, fresh, PortWatch.evaluate_reset]

theorem accountsSound_kept : Kept State.AccountsSound where
  adjusts := State.AccountsSound.adjusts
  disturbs := by
    intro s t h change
    cases change with
    | adjusts quiet => exact h.adjusts quiet
    | enqueue c gate w room engaged => exact h.enqueue engaged c gate
    | removeWaiters gone => exact h.removeWaiters gone
    | renew q g kind termMs held uncontended =>
      exact h.of_ports rfl fun p unattached parts => parts.setGroup (parts.requests g) fun same =>
        h.ne_of_engaged (.of_holder (State.holds_iff.mp held)) unattached (Option.some.inj same)
    | release q g held => exact h.releaseGroup held
    | conclude c o => exact h.concluded c o
    | applyCommit scope => exact h.of_ports (by simp) fun p _ parts => by cases scope <;> exact { parts with }
    | abortInFlight => exact h.of_ports (by simp) fun p _ parts => parts.abortInFlight
    | removeDisabled => exact h.of_ports (by simp) fun p _ parts => parts.removeDisabled
  complete := by
    intro s e h _ chosen p unattached
    rw [State.isAttached, State.port, State.completeEntry_ports] at unattached
    exact (h p unattached).completeEntry (State.chosenEntry_mem chosen).1 _
  start := fun h _ chosen p unattached =>
    (h p unattached).startConversion (State.chosenEntry_mem chosen).1

/-! ## Hub reset, step by step (R189) -/

theorem State.ResetSound.of_running (running : s.inReset = false) : s.ResetSound := by
  intro reset
  rw [running] at reset
  cases reset

theorem PortController.hubReset_hubReset (c : PortController) : c.hubReset.hubReset = c.hubReset := by
  have state := (PortController.afterHubReset c).2
  unfold PortController.hubReset at state ⊢
  split <;> rfl

theorem State.resetSound_resetBlocks (s : State) (inReset : Bool) :
    (s.resetBlocks inReset).ResetSound := by
  intro (reset : inReset = true)
  subst reset
  refine State.ext_fields rfl rfl rfl rfl rfl rfl rfl rfl rfl rfl rfl (Table.ext_read fun p => ?_) rfl
  change (s.resetBlocks true).port p = ((s.resetBlocks true).resetBlocks true).port p
  rw [State.port_resetBlocks, State.port_resetBlocks, State.port_resetBlocks,
    PortController.hubReset_hubReset]

theorem State.ResetSound.port_eq (h : s.ResetSound) (reset : s.inReset = true) (p : PortId) :
    s.port p = (s.port p).hubReset :=
  (congrArg (State.port · p) (h reset)).trans (s.port_resetBlocks true p)

/-- PRSTn moves a port between the two states of R160. -/
theorem State.ResetSound.setPort (h : s.ResetSound) (reset : s.inReset = true) (p : PortId)
    {c : PortController} (atReset : c = c.hubReset) : (s.setPort p c).ResetSound := by
  intro _
  have block {α : Type} (field : State → α) : field s = field (s.resetBlocks true) :=
    congrArg field (h reset)
  refine State.ext_fields (block State.selection) (block State.config) (block State.hubTime)
    (block State.inReset) (block State.engine) (block State.queue) (block State.schedules)
    (block State.results) (block State.completions) (block State.watch) (block State.leases)
    (Table.ext_read fun q => ?_) rfl
  change (s.setPort p c).port q = ((s.setPort p c).resetBlocks true).port q
  rw [State.port_resetBlocks]
  by_cases same : q = p
  · subst same
    rw [State.port_setPort]
    exact atReset
  · rw [State.port_setPort_of_ne _ _ same]
    exact h.port_eq reset q

theorem State.ResetSound.setPending (h : s.ResetSound) (l : List Instr) :
    (s.setPending l).ResetSound :=
  fun reset => congrArg (State.setPending · l) (h reset)

/-- Out of hub reset, RESET stays high at every change but its own fall. -/
theorem running_kept : Kept fun s => s.inReset = false where
  adjusts := by
    intro s t running change
    cases change with
    | rise => rfl
    | _ => exact running
  disturbs := by
    intro s t running change
    cases change with
    | adjusts quiet =>
      cases quiet with
      | rise => rfl
      | _ => exact running
    | conclude c o =>
      unfold State.concluded
      split
      · exact (State.completeEntry_inReset ..).trans running
      · exact running
    | renew p g kind termMs => exact running
    | _ => simpa using running
  complete := fun running _ _ => (State.completeEntry_inReset ..).trans running
  start := fun running _ _ => running

theorem State.ResetSound.releasePortReset (h : s.ResetSound) (p : PortId) :
    (s.releasePortReset p).ResetSound := by
  unfold State.releasePortReset
  split
  next offline =>
    cases reset : s.inReset with
    | false => exact .of_running reset
    | true =>
      refine h.setPort reset p ?_
      rw [h.port_eq reset p]
      rfl
  next => exact h

theorem State.ResetSound.exec (h : s.ResetSound) {i : Instr} (next : exec i s = .next t) :
    t.ResetSound := by
  cases reset : s.inReset with
  | false =>
    obtain ⟨t', run, change⟩ := exec_leads i s
    rw [run] at next
    cases next
    rcases change with leads | falls
    · exact .of_running (running_kept.leads reset leads)
    · cases falls with
      | hub => exact s.resetSound_resetBlocks true
      | port p low => rw [reset] at low; cases low
  | true =>
    by_cases release : i = .hubResetRelease
    · subst release
      cases next
      exact (State.releaseHubReset_of_reset reset).symm ▸ s.resetSound_resetBlocks false
    by_cases fall : ∃ p, i = .portResetAssert p
    · obtain ⟨p, rfl⟩ := fall
      cases next
      rw [State.assertPortReset_of_reset reset]
      exact h.setPort reset p rfl
    by_cases rise : ∃ p, i = .portResetRelease p
    · obtain ⟨p, rfl⟩ := rise
      cases next
      exact h.releasePortReset p
    rw [hubResetHoldsStill s i reset h release (not_exists.mp fall) (not_exists.mp rise)] at next
    cases next
    exact h

theorem State.ResetSound.step (h : s.ResetSound) (next : step s = .next t) : t.ResetSound := by
  unfold Machine.step at next
  split at next
  next =>
    cases next
    exact h
  next i rest _ => exact (h.setPending rest).exec next

/-- In hub reset every block holds its reset values, so nothing is held for the port whose PRSTn falls. -/
theorem State.ResetSound.accountsSound_of_resets (reset : s.ResetSound) (falls : s.Resets t) :
    t.AccountsSound := by
  cases falls with
  | hub => exact fun p _ => s.holdsNothing_resetBlocks true p
  | port p low =>
    intro q _
    exact ((reset low).symm ▸ s.holdsNothing_resetBlocks true q : s.HoldsNothing q).setPort p _

theorem State.AccountsSound.step (h : s.AccountsSound) (reset : s.ResetSound) (next : step s = .next t) :
    t.AccountsSound := by
  rcases step_leads next with leads | ⟨rest, falls⟩
  · exact accountsSound_kept.leads h leads
  · exact (reset.setPending rest).accountsSound_of_resets falls

end Accounts

/-- Settles O53: hub reset by cases on the command, the accounts by the changes of a step. -/
theorem stepKeepsUnattachedPortsEmpty : Obligations.StepKeepsUnattachedPortsEmpty :=
  fun _ _ reset accounts next => ⟨reset.step next, accounts.step reset next⟩

end Sys2Proof.Machine
end

section
/-!
PROOF. The outstanding items of a port (R51, R94): its waiters, its waiting lease requests and its records, each
by the tag it carries. Every change of a step moves items, drops items, or adds one under the checks of R50,
R76 or R124; from that the statement StepKeepsCreditsAndTags.
-/
namespace Sys2Proof.Machine

/-! ## The items -/

/-- The tag of the origin; a SCHEDULE origin carries none, counted as 0. -/
def Origin.mark : Origin → Half
  | .direct tag => tag
  | .schedule _ => 0

def Completion.mark : Completion → Half
  | .request origin _ _ _ _ => origin.mark
  | .lease tag _ _ _ _ => tag

/-- The marks of the waiters of `p` in one entry. -/
def Entry.marks (p : PortId) (e : Entry) : List Half :=
  (e.waiters.filter fun w => decide (w.port = p)).map fun w => w.origin.mark

/-- The marks of the requests of `p` in one wait list. -/
def requestMarks (p : PortId) (l : List LeaseRequest) : List Half :=
  (l.filter fun q => decide (q.port = p)).map LeaseRequest.tag

/-- What holds the credits of `p` (R51), each item by its mark. -/
def State.items (s : State) (p : PortId) : List Half :=
  s.entries.flatMap (Entry.marks p) ++ (everyIndex 3).flatMap (fun g => requestMarks p (s.group g).waiting) ++
    (s.cq p).map Completion.mark

/-- R93 and R94 of a port's items. -/
structure Accounted (items : List Half) : Prop where
  credits : items.length ≤ 16
  tags : (items.filter fun t => decide (t ≠ 0)).Nodup

section Items

variable {s t : State} {p : PortId}

theorem State.length_items (s : State) (p : PortId) : (s.items p).length = s.holdings p := by
  have entries : (s.entries.flatMap (Entry.marks p)).length = waitersOf p s.entries := by
    simp [List.length_flatMap, waitersOf, Entry.marks, List.countP_eq_length_filter]
  have requests : ((everyIndex 3).flatMap fun g => requestMarks p (s.group g).waiting).length =
      s.leaseRequestsOf p := by
    simp [List.length_flatMap, State.leaseRequestsOf, requestMarks, List.countP_eq_length_filter]
  rw [State.items, List.length_append, List.length_append, entries, requests, List.length_map,
    State.holdings]
  omega

theorem Origin.filter_tags (o : Origin) :
    o.tags.filter (fun t => decide (t ≠ 0)) = [o.mark].filter fun t => decide (t ≠ 0) := by
  cases o <;> rfl

theorem Completion.filter_tags (r : Completion) :
    r.tags.filter (fun t => decide (t ≠ 0)) = [r.mark].filter fun t => decide (t ≠ 0) := by
  cases r with
  | request origin => exact origin.filter_tags
  | lease => rfl

/-- Of the marks the nonzero ones are the tags of R94. -/
theorem State.filter_items (s : State) (p : PortId) :
    (s.items p).filter (fun t => decide (t ≠ 0)) = s.outstandingTags p := by
  have waiters (l : List Waiter) : (l.flatMap (Waiter.tagsOf p)).filter (fun t => decide (t ≠ 0)) =
      ((l.filter fun w => decide (w.port = p)).map fun w => w.origin.mark).filter
        fun t => decide (t ≠ 0) := by
    induction l with
    | nil => rfl
    | cons w l ih =>
      rw [List.flatMap_cons, List.filter_append, ih, Waiter.tagsOf]
      by_cases own : w.port = p
      · have first : (w :: l).filter (fun w => decide (w.port = p)) =
            w :: l.filter fun w => decide (w.port = p) :=
          List.filter_cons_of_pos (decide_eq_true own)
        rw [if_pos own, first, List.map_cons, Origin.filter_tags, ← List.filter_append]
        rfl
      · rw [if_neg own, List.filter_cons_of_neg (by simpa using own)]
        rfl
  have requests (l : List LeaseRequest) : l.flatMap (LeaseRequest.tagsOf p) = requestMarks p l := by
    induction l with
    | nil => rfl
    | cons q l ih =>
      rw [List.flatMap_cons, ih, LeaseRequest.tagsOf, requestMarks, requestMarks]
      by_cases own : q.port = p
      · rw [if_pos own, List.filter_cons_of_pos (by simpa using own)]
        rfl
      · rw [if_neg own, List.filter_cons_of_neg (by simpa using own)]
        rfl
  have records (l : List Completion) : (l.flatMap Completion.tags).filter (fun t => decide (t ≠ 0)) =
      (l.map Completion.mark).filter fun t => decide (t ≠ 0) := by
    induction l with
    | nil => rfl
    | cons r l ih =>
      rw [List.flatMap_cons, List.filter_append, ih, Completion.filter_tags, ← List.filter_append]
      rfl
  unfold State.items State.outstandingTags
  simp only [List.filter_append, List.filter_flatMap, requests, records, waiters, Entry.marks]

/-- The marks of `p`, and with them its credits and its tags. -/
theorem State.accounted_items (credits : s.CreditSound) (tags : s.TagsSound) (p : PortId) :
    Accounted (s.items p) :=
  ⟨s.length_items p ▸ credits p, s.filter_items p ▸ tags p⟩

theorem Accounted.credit (h : Accounted (s.items p)) : s.holdings p ≤ 16 := s.length_items p ▸ h.credits

theorem Accounted.tag (h : Accounted (s.items p)) : (s.outstandingTags p).Nodup := s.filter_items p ▸ h.tags

/-- Items leave. -/
theorem Accounted.of_sublist {l m : List Half} (h : Accounted l) (sub : m.Sublist l) : Accounted m where
  credits := Nat.le_trans sub.length_le h.credits
  tags := h.tags.sublist (sub.filter _)

/-- Items move. -/
theorem Accounted.of_perm {l m : List Half} (h : Accounted l) (perm : m.Perm l) : Accounted m where
  credits := Nat.le_trans (Nat.le_of_eq perm.length_eq) h.credits
  tags := (perm.filter _).nodup_iff.mpr h.tags

/-- An item joins on a free credit and a free tag. -/
theorem Accounted.cons {l : List Half} (h : Accounted l) {x : Half} (credit : l.length < 16)
    (fresh : x ≠ 0 → x ∉ l) : Accounted (x :: l) where
  credits := credit
  tags := by
    by_cases zero : x = 0
    · rw [List.filter_cons_of_neg (by simpa using zero)]
      exact h.tags
    · rw [List.filter_cons_of_pos (by simpa using zero), List.nodup_cons]
      exact ⟨fun mem => fresh zero (List.mem_filter.mp mem).1, h.tags⟩

theorem State.credit_iff : s.freeCredits p ≠ 0 ↔ (s.items p).length < 16 := by
  rw [State.length_items, State.freeCredits, ne_eq, Nat.sub_eq_zero_iff_le, Nat.not_le]
  rfl

/-- R50 check 4: an outstanding item of the port carries the tag. -/
theorem State.tagInUse_of_mem {tag : Half} (nonzero : tag ≠ 0) (mem : tag ∈ s.items p) :
    s.tagInUse p tag = true := by
  have lives : decide (tag ≠ 0) = true := decide_eq_true nonzero
  have marked : tag ∈ (s.items p).filter fun t => decide (t ≠ 0) :=
    List.mem_filter.mpr ⟨mem, by simpa using nonzero⟩
  rw [State.filter_items, State.outstandingTags, List.mem_filter, List.mem_append, List.mem_append] at marked
  obtain ⟨(waits | requests) | records, -⟩ := marked
  · obtain ⟨e, he, waits⟩ := List.mem_flatMap.mp waits
    obtain ⟨w, hw, carries⟩ := List.mem_flatMap.mp waits
    have direct : Waiter.isDirectOf p tag w = true := by
      cases origin : w.origin <;> simp_all [Waiter.tagsOf, Waiter.isDirectOf, Origin.tags]
    have any : s.entries.any (fun e => e.waiters.any (Waiter.isDirectOf p tag)) = true :=
      List.any_eq_true.mpr ⟨e, he, List.any_eq_true.mpr ⟨w, hw, direct⟩⟩
    rw [State.tagInUse, lives, any]
    simp
  · obtain ⟨g, hg, requests⟩ := List.mem_flatMap.mp requests
    obtain ⟨q, hq, carries⟩ := List.mem_flatMap.mp requests
    have own : LeaseRequest.isOf p tag q = true := by
      simp_all [LeaseRequest.tagsOf, LeaseRequest.isOf]
    have any : (everyIndex 3).any (fun g => (s.group g).waiting.any (LeaseRequest.isOf p tag)) = true :=
      List.any_eq_true.mpr ⟨g, hg, List.any_eq_true.mpr ⟨q, hq, own⟩⟩
    rw [State.tagInUse, lives, any]
    simp
  · obtain ⟨r, hr, carries⟩ := List.mem_flatMap.mp records
    have own : r.carriesTag tag = true := by
      cases r with
      | lease => simp_all [Completion.tags, Completion.carriesTag]
      | request origin =>
        cases origin <;> simp_all [Completion.tags, Completion.carriesTag, Origin.tags]
    have any : (s.cq p).any (Completion.carriesTag tag) = true := List.any_eq_true.mpr ⟨r, hr, own⟩
    rw [State.tagInUse, lives, any]
    simp

theorem State.not_mem_items {tag : Half} (free : s.tagInUse p tag = false) (nonzero : tag ≠ 0) :
    tag ∉ s.items p := by
  intro mem
  rw [State.tagInUse_of_mem nonzero mem] at free
  cases free

theorem State.items_congr (entries : t.entries = s.entries) (groups : t.leases.groups = s.leases.groups)
    (records : t.completions = s.completions) (p : PortId) : t.items p = s.items p := by
  unfold State.items State.group State.cq
  rw [entries, groups, records]

end Items

/-! ## Requests admitted (R52, R53) -/

section Admission

variable {s : State}

/-- The item that waiter `w` is, for port `p`. -/
def Waiter.marks (p : PortId) (w : Waiter) : List Half := if w.port = p then [w.origin.mark] else []

theorem Entry.marks_join (p : PortId) (e : Entry) (w : Waiter) :
    ({ e with waiters := e.waiters ++ [w] } : Entry).marks p = e.marks p ++ w.marks p := by
  rw [Entry.marks, Entry.marks, List.filter_append, List.map_append, Waiter.marks]
  by_cases own : w.port = p <;> simp [own]

/-- R52: one entry has the key, and the waiter joins that one. -/
theorem marks_joinEntry (c : ChannelId) (gate : GateSource) (w : Waiter) (p : PortId) {l : List Entry}
    (keys : (pendingKeys l).Nodup) (found : ∃ e ∈ l, (e.isPending && e.hasKey c gate) = true) :
    ((joinEntry c gate w l).flatMap (Entry.marks p)).Perm (w.marks p ++ l.flatMap (Entry.marks p)) := by
  induction l with
  | nil =>
    obtain ⟨e, he, -⟩ := found
    cases he
  | cons f l ih =>
    rw [joinEntry, List.map_cons, ← joinEntry, List.flatMap_cons, List.flatMap_cons]
    by_cases matched : (f.isPending && f.hasKey c gate) = true
    · obtain ⟨pending, key⟩ := (Bool.and_eq_true _ _).mp matched
      have others : joinEntry c gate w l = l := by
        rw [joinEntry]
        refine (List.map_congr_left fun e he => if_neg fun again => ?_).trans (List.map_id l)
        obtain ⟨pending', key'⟩ := (Bool.and_eq_true _ _).mp again
        rw [pendingKeys, List.filter_cons_of_pos pending, List.map_cons, List.nodup_cons] at keys
        refine keys.1 (List.mem_map.mpr ⟨e, List.mem_filter.mpr ⟨he, pending'⟩, ?_⟩)
        simp only [Entry.hasKey, Bool.and_eq_true, decide_eq_true_eq] at key key'
        exact Entry.key_eq_iff.mpr ⟨key'.1.trans key.1.symm, key'.2.trans key.2.symm⟩
      rw [if_pos matched, others, Entry.marks_join, List.append_assoc]
      exact List.perm_append_comm_assoc ..
    · rw [if_neg matched]
      have rest : (pendingKeys l).Nodup := keys.sublist (((List.sublist_cons_self f l).filter _).map _)
      obtain ⟨e, he, key⟩ := found
      have later : e ∈ l := by
        rcases List.mem_cons.mp he with rfl | later
        · exact absurd key matched
        · exact later
      exact ((ih rest ⟨e, later, key⟩).append_left _).trans (List.perm_append_comm_assoc ..)

theorem State.items_enqueue (queue : s.QueueSound) (c : ChannelId) (gate : GateSource) (w : Waiter)
    (p : PortId) : ((s.enqueue c gate w).items p).Perm (w.marks p ++ s.items p) := by
  have entries : ((s.enqueue c gate w).entries.flatMap (Entry.marks p)).Perm
      (w.marks p ++ s.entries.flatMap (Entry.marks p)) := by
    unfold State.enqueue
    split
    next e joined =>
      exact marks_joinEntry c gate w p queue.bounds.pending
        ⟨e, List.mem_of_find?_eq_some joined, by simpa using List.find?_some joined⟩
    next =>
      have last : (s.newEntry c gate w).marks p = w.marks p :=
        Entry.marks_join p { s.newEntry c gate w with waiters := [] } w
      change ((s.entries ++ [s.newEntry c gate w]).flatMap (Entry.marks p)).Perm _
      rw [List.flatMap_append, List.flatMap_singleton, last]
      exact List.perm_append_comm
  have leases : (s.enqueue c gate w).leases = s.leases := by simp
  have records : (s.enqueue c gate w).completions = s.completions := by simp
  have group (g : GroupId) : (s.enqueue c gate w).group g = s.group g := by rw [State.group, leases]; rfl
  have queue : (s.enqueue c gate w).cq p = s.cq p := by rw [State.cq, records]; rfl
  unfold State.items
  simp only [group, queue]
  rw [← List.append_assoc, ← List.append_assoc]
  exact (entries.append_right _).append_right _

end Admission

/-! ## Outcomes (R65 to R67) -/

/-- The records for the waiters of `p` in an entry that has ended (R65). -/
def Entry.recordsFor (p : PortId) (ending : RequestEnd) (now : Time) (e : Entry) : List Completion :=
  (e.waiters.filter fun w => decide (w.port = p)).map fun w =>
    .request w.origin e.channel e.gate ending now

section Outcomes

variable {s t : State} {e : Entry} {p : PortId}

theorem Entry.mark_recordsFor (ending : RequestEnd) (now : Time) (e : Entry) :
    (e.recordsFor p ending now).map Completion.mark = e.marks p := by
  rw [Entry.recordsFor, List.map_map]
  rfl

/-- Waiters become records, and their entries leave. -/
theorem State.items_ended {left gone : List Entry}
    (split : s.entries.Perm (gone ++ left)) (entries : t.entries = left)
    (groups : t.leases.groups = s.leases.groups)
    (records : (t.cq p).map Completion.mark =
      (s.cq p).map Completion.mark ++ gone.flatMap (Entry.marks p)) :
    (t.items p).Perm (s.items p) := by
  have moved : (s.entries.flatMap (Entry.marks p)).Perm
      (gone.flatMap (Entry.marks p) ++ left.flatMap (Entry.marks p)) := by
    rw [← List.flatMap_append]
    exact split.flatMap_right _
  have group (g : GroupId) : t.group g = s.group g := by rw [State.group, groups, State.group]
  unfold State.items
  rw [records, entries]
  simp only [group]
  refine List.Perm.trans ?_ ((moved.symm.append_right _).append_right _)
  rw [List.perm_iff_count]
  intro x
  simp only [List.count_append]
  omega

theorem State.items_completeEntry (mem : e ∈ s.entries) (o : Outcome) (p : PortId) :
    ((s.completeEntry e o).items p).Perm (s.items p) := by
  refine State.items_ended (gone := [e]) (List.perm_cons_erase mem) (s.entries_completeEntry e o)
    (by simp) ?_
  rw [State.cq_completeEntry, List.map_append, List.flatMap_singleton]
  exact congrArg _ (Entry.mark_recordsFor _ _ e)

theorem State.items_deliver_removeEntry (mem : e ∈ s.entries) (ending : RequestEnd) (p : PortId) :
    (((s.deliver e ending).removeEntry e).items p).Perm (s.items p) := by
  refine State.items_ended (gone := [e]) (List.perm_cons_erase mem) ?_ (by simp) ?_
  · rw [State.removeEntry, State.entries_setEntries, State.entries_deliver]
  · have records : ((s.deliver e ending).removeEntry e).cq p = (s.deliver e ending).cq p := rfl
    rw [records, State.cq_deliver, List.map_append, List.flatMap_singleton]
    exact congrArg _ (Entry.mark_recordsFor _ _ e)

theorem State.cq_foldl_deliver (ending : RequestEnd) (l : List Entry) (s : State) (p : PortId) :
    (l.foldl (fun t e => t.deliver e ending) s).cq p =
      s.cq p ++ l.flatMap (Entry.recordsFor p ending s.hubTime) := by
  induction l generalizing s with
  | nil => simp
  | cons e l ih =>
    rw [List.foldl_cons, ih, State.cq_deliver, State.deliver_hubTime, List.flatMap_cons,
      ← List.append_assoc]
    rfl

/-- R67: the records of the disabled entries, in creation order. -/
theorem State.cq_removeDisabled (s : State) (p : PortId) : s.removeDisabled.cq p =
    s.cq p ++ (s.entries.filter s.disables).flatMap (Entry.recordsFor p .disabled s.hubTime) :=
  State.cq_foldl_deliver .disabled (s.entries.filter s.disables) s p

theorem State.items_removeDisabled (s : State) (p : PortId) :
    (s.removeDisabled.items p).Perm (s.items p) := by
  refine State.items_ended (gone := s.entries.filter s.disables)
    (left := s.entries.filter fun e => !s.disables e) (List.filter_append_perm _ _).symm rfl (by simp) ?_
  rw [State.cq_removeDisabled, List.map_append, List.map_flatMap]
  simp only [Entry.mark_recordsFor]

theorem State.items_abortInFlight (s : State) (p : PortId) :
    (s.abortInFlight.items p).Perm (s.items p) := by
  unfold State.abortInFlight
  dsimp only
  split
  next => exact .refl _
  next e found => exact State.items_deliver_removeEntry (State.inFlightEntry_mem found) .aborted p

theorem State.items_concluded (s : State) (c : Conversion) (o : Outcome) (p : PortId) :
    ((s.concluded c o).items p).Perm (s.items p) := by
  unfold State.concluded
  split
  next e found => exact State.items_completeEntry (State.inFlightEntry_mem found) o p
  next => exact .refl _

/-- Elements change to hold fewer items, and some of them leave. -/
theorem flatMap_filter_map_sublist {α β : Type} {marks : α → List β} {f : α → α}
    (fewer : ∀ a, (marks (f a)).Sublist (marks a)) (keep : α → Bool) (l : List α) :
    (((l.map f).filter keep).flatMap marks).Sublist (l.flatMap marks) := by
  induction l with
  | nil => exact .refl _
  | cons a l ih =>
    rw [List.map_cons, List.filter_cons, List.flatMap_cons]
    split
    · rw [List.flatMap_cons]
      exact (fewer a).append ih
    · exact ih.trans (List.sublist_append_right _ _)

/-- R62: waiters leave with nothing owed. -/
theorem State.items_removeWaiters (s : State) (gone : Waiter → Bool) (p : PortId) :
    ((s.removeWaiters gone).items p).Sublist (s.items p) := by
  have leases : (s.removeWaiters gone).leases = s.leases := by simp
  have completions : (s.removeWaiters gone).completions = s.completions := by simp
  have fewer : ((s.removeWaiters gone).entries.flatMap (Entry.marks p)).Sublist
      (s.entries.flatMap (Entry.marks p)) := by
    rw [State.entries_removeWaiters]
    exact flatMap_filter_map_sublist (fun e => (List.filter_sublist.filter _).map _) _ _
  unfold State.items State.group State.cq
  rw [leases, completions]
  exact (fewer.append_right _).append_right _

theorem State.items_startConversion (mem : e ∈ s.entries) (p : PortId) :
    (s.startConversion e).items p = s.items p := by
  have entries : (s.startConversion e).entries.flatMap (Entry.marks p) =
      s.entries.flatMap (Entry.marks p) := by
    change (s.entries.replace e { e with state := .inFlight }).flatMap (Entry.marks p) = _
    obtain ⟨before, after, split, notBefore⟩ := List.eq_append_cons_of_mem mem
    rw [split, List.replace_append, if_neg notBefore]
    simp [Entry.marks]
  unfold State.items
  rw [entries]
  rfl

/-- R56: an aging limit is no item. -/
theorem State.items_agingCapExpires (s : State) (position : Fin 24) (p : PortId) :
    (s.agingCapExpires position).items p = s.items p := by
  have entries : (s.agingCapExpires position).entries.map Entry.waiters = s.entries.map Entry.waiters := by
    change (s.entries.modify position.val (Entry.agingExpired s.hubTime)).map _ = _
    refine List.ext_getElem (by simp) fun j _ _ => ?_
    simp only [List.getElem_map, List.getElem_modify]
    split
    · exact (Entry.agingExpired_frame _ _).2
    · rfl
  have byWaiters (l : List Entry) : l.flatMap (Entry.marks p) = (l.map Entry.waiters).flatMap
      fun ws => (ws.filter fun w => decide (w.port = p)).map fun w => w.origin.mark := by
    rw [List.flatMap_map]
    rfl
  unfold State.items
  rw [byWaiters, entries, ← byWaiters]
  rfl

end Outcomes

/-! ## Lease requests (R124, R129) -/

section Requests

variable {s t : State} {p : PortId}

/-- One wait list changes. -/
theorem State.requestMarks_setGroup (s : State) (g : GroupId) (x : GroupLease) (p : PortId) :
    ∃ rest, ((everyIndex 3).flatMap fun k => requestMarks p (s.group k).waiting).Perm
        (requestMarks p (s.group g).waiting ++ rest) ∧
      ((everyIndex 3).flatMap fun k => requestMarks p ((s.setGroup g x).group k).waiting).Perm
        (requestMarks p x.waiting ++ rest) := by
  have mem : g ∈ everyIndex 3 := mem_everyIndex g
  have nodup : (everyIndex 3).Nodup := by decide
  refine ⟨((everyIndex 3).erase g).flatMap fun k => requestMarks p (s.group k).waiting,
    (List.perm_cons_erase mem).flatMap_right _, ?_⟩
  refine ((List.perm_cons_erase mem).flatMap_right _).trans ?_
  rw [List.flatMap_cons, State.group_setGroup]
  refine List.Perm.append_left _ (.of_eq (congrArg List.flatten (List.map_congr_left fun k hk => ?_)))
  rw [State.group_setGroup_of_ne _ _ (List.Nodup.mem_erase_iff nodup |>.mp hk).1]

/-- A wait list changes, and records join. -/
theorem State.items_of_setGroup {g : GroupId} {x : GroupLease} {left joined : List Half}
    (entries : t.entries = s.entries) (groups : ∀ k, t.group k = (s.setGroup g x).group k)
    (records : (t.cq p).map Completion.mark = (s.cq p).map Completion.mark ++ joined)
    (moved : (requestMarks p x.waiting ++ joined).Perm (left ++ requestMarks p (s.group g).waiting)) :
    (t.items p).Perm (left ++ s.items p) := by
  obtain ⟨rest, before, after⟩ := s.requestMarks_setGroup g x p
  unfold State.items
  simp only [entries, groups, records]
  rw [List.perm_iff_count] at before after moved ⊢
  intro y
  have := before y
  have := after y
  have := moved y
  simp only [List.count_append] at *
  omega

/-- R129: the head of the wait list becomes a record. -/
theorem requestMarks_passed (now : Time) (g : GroupId) (l : List LeaseRequest) :
    (requestMarks p (GroupLease.passed now l).waiting ++
      (grantRecords now g p l).map Completion.mark).Perm (requestMarks p l) := by
  cases l with
  | nil => exact .refl _
  | cons q rest =>
    by_cases own : q.port = p
    · rw [grantRecords, if_pos own, requestMarks, requestMarks,
        List.filter_cons_of_pos (by simpa using own), List.map_cons]
      exact List.perm_append_comm
    · rw [grantRecords, if_neg own, requestMarks, requestMarks,
        List.filter_cons_of_neg (by simpa using own)]
      exact .of_eq (List.append_nil _)

theorem State.items_releaseGroup {q : PortId} {g : GroupId} (held : s.holds q g = true) (p : PortId) :
    ((s.releaseGroup q g).items p).Perm (s.items p) := by
  have queue : (s.releaseGroup q g).queue = s.queue := by simp
  refine State.items_of_setGroup (left := []) (g := g)
    (x := GroupLease.passed s.hubTime (s.group g).waiting) (congrArg RequestQueue.entries queue)
    (fun k => ?_) ?_ (requestMarks_passed s.hubTime g _)
  · rw [State.group_releaseGroup _ _ _ _ held]
    by_cases same : k = g
    · rw [if_pos same, same, State.group_setGroup]
    · rw [if_neg same, State.group_setGroup_of_ne _ _ same]
  · rw [State.cq_releaseGroup _ _ _ _ held, List.map_append]

theorem State.items_queueLease (s : State) (h : PortId) (g : GroupId) (q : LeaseRequest) (p : PortId) :
    ((s.queueLease h g q).items p).Perm (requestMarks p [q] ++ s.items p) := by
  refine State.items_of_setGroup (g := g)
    (x := { s.group g with waiting := (s.group g).waiting ++ [q] }) (joined := []) rfl (fun _ => rfl)
    (List.append_nil _).symm ?_
  rw [List.append_nil, requestMarks, List.filter_append, List.map_append]
  exact List.perm_append_comm

/-- A group keeps its wait list. -/
theorem State.items_grant (s : State) (q : PortId) (g : GroupId) (kind : LeaseKind) (termMs : Word)
    (p : PortId) : ((s.grant q g kind termMs).items p).Perm (s.items p) :=
  State.items_of_setGroup (left := []) (joined := []) (g := g) rfl (fun _ => rfl)
    (List.append_nil _).symm (.of_eq (List.append_nil _))

/-- Requests of one wait list leave. -/
theorem State.items_withdraw (s : State) (g : GroupId) (keep : LeaseRequest → Bool) (p : PortId) :
    ∃ before after, before.Perm (s.items p) ∧ after.Sublist before ∧
      ((s.setGroup g { s.group g with waiting := (s.group g).waiting.filter keep }).items p).Perm after := by
  obtain ⟨rest, before, after⟩ :=
    s.requestMarks_setGroup g { s.group g with waiting := (s.group g).waiting.filter keep } p
  have fewer : (requestMarks p ((s.group g).waiting.filter keep)).Sublist
      (requestMarks p (s.group g).waiting) := (List.filter_sublist.filter _).map _
  exact ⟨_, _, (before.symm.append_left _).append_right _,
    ((fewer.append_right rest).append_left _).append_right _, (after.append_left _).append_right _⟩

end Requests

/-! ## Every step -/

section Steps

variable {s t : State}

theorem State.queueSound_concluded (h : s.QueueSound) (c : Conversion) (o : Outcome) :
    (s.concluded c o).QueueSound := by
  unfold State.concluded
  split
  next e found =>
    exact h.retire found (State.entries_completeEntry e o)
      (congrArg Engine.conversion (State.completeEntry_engine ..))
  next found => exact h.stop found rfl rfl

theorem State.QueueSound.adjusts (h : s.QueueSound) (change : s.Adjusts t) : t.QueueSound := by
  cases change with
  | rise => exact s.queueSound_resetBlocks false
  | phase x e conv moved key => exact h.of_same (.of_phase conv rfl moved key)
  | aging position => exact h.agingCapExpires position
  | _ => exact h.of_same ⟨rfl, rfl⟩

theorem queueSound_kept : Kept State.QueueSound where
  adjusts := State.QueueSound.adjusts
  disturbs := by
    intro s t h change
    cases change with
    | adjusts quiet => exact h.adjusts quiet
    | enqueue c gate w room => exact h.enqueue room w
    | removeWaiters gone => exact h.removeWaiters gone
    | renew p g => exact h.of_same ⟨rfl, rfl⟩
    | release p g => exact h.releaseGroup p g
    | conclude c o => exact State.queueSound_concluded h c o
    | applyCommit scope => exact h.of_same (State.sameQueue_applyCommit scope)
    | abortInFlight => exact h.abortInFlight
    | removeDisabled => exact h.removeDisabled
  complete := fun h idle _ => h.completeEntry idle _ _
  start := fun h idle chosen => h.startConversion idle chosen

/-- R93 and R94 for every port. -/
def State.Accounted (s : State) : Prop := ∀ p, Machine.Accounted (s.items p)

theorem State.Accounted.of_sublist (h : s.Accounted) (sub : ∀ p, (t.items p).Sublist (s.items p)) :
    t.Accounted :=
  fun p => (h p).of_sublist (sub p)

theorem State.Accounted.of_perm (h : s.Accounted) (perm : ∀ p, (t.items p).Perm (s.items p)) :
    t.Accounted :=
  fun p => (h p).of_perm (perm p)

theorem State.Accounted.of_eq (h : s.Accounted) (same : ∀ p, t.items p = s.items p) : t.Accounted :=
  h.of_perm fun p => .of_eq (same p)

/-- One item joins the items of one port. -/
theorem State.Accounted.join (h : s.Accounted) {owner : PortId} {x : Half}
    (credit : s.freeCredits owner ≠ 0) (fresh : x ≠ 0 → x ∉ s.items owner)
    (joined : ∀ p, (t.items p).Perm ((if owner = p then [x] else []) ++ s.items p)) : t.Accounted := by
  intro p
  refine Machine.Accounted.of_perm ?_ (joined p)
  by_cases own : owner = p
  · subst own
    rw [if_pos rfl]
    exact (h owner).cons (State.credit_iff.mp credit) fresh
  · rw [if_neg own]
    exact h p

theorem State.items_resetBlocks (s : State) (inReset : Bool) (p : PortId) :
    (s.resetBlocks inReset).items p = [] := by
  rw [← List.length_eq_zero_iff, State.length_items]
  exact (s.holdsNothing_resetBlocks inReset p).credits

theorem State.accounted_resetBlocks (s : State) (inReset : Bool) : (s.resetBlocks inReset).Accounted := by
  intro p
  rw [State.items_resetBlocks]
  exact ⟨by decide, List.nodup_nil⟩

theorem State.Accounted.adjusts (h : s.Accounted) (change : s.Adjusts t) : t.Accounted := by
  cases change with
  | rise => exact s.accounted_resetBlocks false
  | aging position => exact h.of_eq (s.items_agingCapExpires position)
  | records p l left =>
    refine h.of_sublist fun q => ?_
    have fewer : ((s.setCq p l).cq q).Sublist (s.cq q) := by
      by_cases same : q = p
      · subst same
        rwa [State.cq_setCq]
      · simp only [State.cq_setCq_of_ne _ _ same, List.Sublist.refl]
    exact (fewer.map _).append_left _
  | withdraw g keep =>
    intro p
    obtain ⟨_, _, before, left, after⟩ := s.items_withdraw g keep p
    exact (((h p).of_perm before).of_sublist left).of_perm after
  | grant p g kind termMs => exact h.of_perm (s.items_grant p g kind termMs)
  | queueLease holder g q attached held other fresh tag credit =>
    refine h.join credit (State.not_mem_items tag) fun p => ?_
    refine (s.items_queueLease holder g q p).trans (.of_eq ?_)
    by_cases own : q.port = p <;> simp [requestMarks, own]
  | _ => exact h.of_eq (State.items_congr rfl rfl rfl)

theorem accounted_kept : Kept fun s => s.QueueSound ∧ s.Accounted where
  adjusts := fun ⟨queue, h⟩ change => ⟨queue.adjusts change, h.adjusts change⟩
  disturbs := by
    intro s t ⟨queue, h⟩ change
    refine ⟨queueSound_kept.disturbs queue change, ?_⟩
    cases change with
    | adjusts quiet => exact h.adjusts quiet
    | enqueue c gate w room engaged credit tag =>
      refine h.join credit (fun nonzero => ?_) (State.items_enqueue queue c gate w)
      cases origin : w.origin with
      | direct x => exact State.not_mem_items (tag x origin) (by rwa [origin] at nonzero)
      | schedule i => exact absurd rfl (by rwa [origin] at nonzero)
    | removeWaiters gone => exact h.of_sublist (s.items_removeWaiters gone)
    | renew p g kind termMs => exact h.of_perm (s.items_grant p g kind termMs)
    | release p g held => exact h.of_perm (State.items_releaseGroup held)
    | conclude c o => exact h.of_perm (s.items_concluded c o)
    | applyCommit scope =>
      exact h.of_eq (State.items_congr (by cases scope <;> rfl) (s.groups_applyCommit scope)
        (by cases scope <;> rfl))
    | abortInFlight => exact h.of_perm s.items_abortInFlight
    | removeDisabled => exact h.of_perm s.items_removeDisabled
  complete := fun ⟨queue, h⟩ idle chosen =>
    ⟨queue.completeEntry idle _ _, h.of_perm (State.items_completeEntry (State.chosenEntry_mem chosen).1 _)⟩
  start := fun ⟨queue, h⟩ idle chosen =>
    ⟨queue.startConversion idle chosen, h.of_eq (State.items_startConversion (State.chosenEntry_mem chosen).1)⟩

theorem State.Accounted.resets (h : s.Accounted) (falls : s.Resets t) : t.Accounted := by
  cases falls with
  | hub => exact s.accounted_resetBlocks true
  | port p reset => exact h.of_eq (State.items_congr rfl rfl rfl)

theorem State.QueueSound.resets (h : s.QueueSound) (falls : s.Resets t) : t.QueueSound := by
  cases falls with
  | hub => exact s.queueSound_resetBlocks true
  | port p reset => exact h.of_same ⟨rfl, rfl⟩

end Steps

/-- Settles O56: of every change, what joins, moves and leaves of the items. -/
theorem stepKeepsCreditsAndTags : Obligations.StepKeepsCreditsAndTags := by
  intro s t queue credits tags next
  obtain ⟨-, accounted⟩ := accounted_kept.step (fun h falls => ⟨h.1.resets falls, h.2.resets falls⟩)
    ⟨queue, State.accounted_items credits tags⟩ next
  exact ⟨fun p => (accounted p).credit, fun p => (accounted p).tag⟩

end Sys2Proof.Machine
end

section
/-!
PROOF. The end of a transaction as one change of its port's controller (R161, R167 to R174), case by case, and the
statements about a short transaction, a bad request, a discarded request, a repeat and an unknown command.
-/
namespace Sys2Proof.Machine

section Endings

variable {s : State} {p : PortId} {t : Transaction}

/-! ## A transaction that ends early (R168) -/

theorem State.endShort_of_some (front : (s.port p).transaction = some t) : s.endShort p = s.setPort p
    { s.port p with
      transactions := (s.port p).transactions.tail
      linkErrors := saturatingSucc (s.port p).linkErrors
      held := heldAfterShort t.began (s.port p).held } := by
  unfold State.endShort
  rw [front]
  simp [State.closeTransaction, State.countLinkError]

theorem heldAfterShort_of_not_ready {began : HeldState} (other : began ≠ .ready) (h : Held) :
    heldAfterShort began h = h := by
  cases began with
  | ready => exact absurd rfl other
  | _ => rfl

theorem heldAfterShort_of_unready {h : Held} (unready : ∀ x, h ≠ .ready x) (began : HeldState) :
    heldAfterShort began h = h := by
  cases h with
  | ready x => exact absurd rfl (unready x)
  | _ => cases began <;> rfl

/-! ## A bad request (R167, R170) -/

theorem State.endBad_of_answered (front : (s.port p).transaction = some t)
    (began : t.began = .none ∨ t.began = .ready) : s.endBad p = s.setPort p
      { s.port p with
        transactions := (s.port p).transactions.tail
        linkErrors := saturatingSucc (s.port p).linkErrors
        backlog := (s.port p).backlog && !t.slot.flags.backlog
        held := .preparing
          { status := .linkError, tagEcho := 0, payload := be16 (saturatingSucc (s.port p).linkErrors),
            isRepeat := false }
          (s.hubTime + 5) } := by
  have answered : s.endBad p = ((s.closeTransaction p).delivered p t).answerLinkError p := by
    unfold State.endBad
    rw [front]
    dsimp only
    rcases began with began | began <;> rw [began]
  rw [answered]
  simp [State.closeTransaction, State.delivered, State.answerLinkError, State.countLinkError, State.hold,
    Config.readinessDelay]

theorem State.endBad_of_interrupted (front : (s.port p).transaction = some t)
    (began : t.began = .interrupted) : s.endBad p = s.setPort p
      { s.port p with
        transactions := (s.port p).transactions.tail
        linkErrors := saturatingSucc (s.port p).linkErrors
        held := .none } := by
  unfold State.endBad
  rw [front]
  dsimp only
  rw [began]
  simp [State.closeTransaction, State.countLinkError]

theorem State.endBad_of_preparing (front : (s.port p).transaction = some t)
    (began : t.began = .preparing) : s.endBad p = s.setPort p
      { s.port p with
        transactions := (s.port p).transactions.tail
        linkErrors := saturatingSucc (s.port p).linkErrors } := by
  unfold State.endBad
  rw [front]
  dsimp only
  rw [began]
  simp [State.closeTransaction, State.countLinkError]

/-! ## A good request (R167, R172) -/

variable {tag crc : Half} {command : State → Reply}

theorem State.endGood_of_interrupted (front : (s.port p).transaction = some t)
    (began : t.began = .interrupted) : s.endGood p tag crc command = s.setPort p
      { s.port p with
        transactions := (s.port p).transactions.tail
        held := .none
        backlog := true
        state := restartedSilence s.hubTime (s.port p).state } := by
  unfold State.endGood
  rw [front]
  dsimp only
  rw [began]
  simp [State.closeTransaction, State.goodFrame]

theorem State.endGood_of_preparing (front : (s.port p).transaction = some t)
    (began : t.began = .preparing) : s.endGood p tag crc command = s.setPort p
      { s.port p with
        transactions := (s.port p).transactions.tail
        state := restartedSilence s.hubTime (s.port p).state } := by
  unfold State.endGood
  rw [front]
  dsimp only
  rw [began]
  simp [State.closeTransaction, State.goodFrame]

/-- R172: answered from the repeat record. -/
theorem State.endGood_of_repeated {r : Response} (front : (s.port p).transaction = some t)
    (began : t.began = .none ∨ t.began = .ready) (repeated : (s.port p).repeated tag crc = some r) :
    s.endGood p tag crc command = s.setPort p
      { (s.port p).taking t s.hubTime with
        held := .preparing { r with isRepeat := true } (s.hubTime + 5) } := by
  have taken : ((s.closeTransaction p).goodFrame p).delivered p t = s.taken p t := by
    simp [State.closeTransaction, State.goodFrame, State.delivered, State.taken, PortController.taking]
  have handled : s.endGood p tag crc command = (s.taken p t).handleGood p tag crc command := by
    unfold State.endGood
    rw [front, ← taken]
    dsimp only
    rcases began with began | began <;> rw [began]
  have same : ((s.taken p t).port p).repeated tag crc = some r := by
    rw [State.port_taken]
    exact repeated
  rw [handled, State.handleGood, same]
  simp [State.hold, State.taken, Config.readinessDelay]

theorem PortController.repeated_of_record {c : PortController} {k : RepeatRecord}
    (record : c.repeatRecord = some k) (nonzero : tag ≠ 0) (sameTag : k.tag = tag)
    (sameCrc : k.crc = crc) : c.repeated tag crc = some k.response := by
  rw [PortController.repeated, record]
  exact if_pos ⟨nonzero, sameTag, sameCrc⟩

/-! ## Which end it is (R162, R168) -/

theorem State.endTransaction_of_short {sdi : List Bool} (short : sdi.length < 512) :
    s.endTransaction p sdi = s.endShort p :=
  if_pos short

variable {sdi : List Bool} (full : 512 ≤ sdi.length)

include full in
theorem not_short : ¬sdi.length < Config.slotBits := Nat.not_lt.mpr full

include full

theorem State.endTransaction_of_bad (request : checkRequest (receivedSlot sdi) = .bad) :
    s.endTransaction p sdi = s.endBad p := by
  unfold State.endTransaction
  rw [if_neg (not_short full), request]

theorem State.endTransaction_of_unknown
    (request : checkRequest (receivedSlot sdi) = .unknown tag crc) :
    s.endTransaction p sdi = s.endGood p tag crc unknownReply := by
  unfold State.endTransaction
  rw [if_neg (not_short full), request]

theorem State.endTransaction_of_good {c : Command}
    (request : checkRequest (receivedSlot sdi) = .good tag crc c) :
    s.endTransaction p sdi = s.endGood p tag crc (answer p tag c) := by
  unfold State.endTransaction
  rw [if_neg (not_short full), request]

/-- A request that passes the link's checks is a command's or no command's. -/
theorem State.endTransaction_of_not_bad (request : checkRequest (receivedSlot sdi) ≠ .bad) :
    ∃ tag crc command, s.endTransaction p sdi = s.endGood p tag crc command := by
  cases read : checkRequest (receivedSlot sdi) with
  | bad => exact absurd read request
  | unknown tag crc => exact ⟨tag, crc, _, State.endTransaction_of_unknown full read⟩
  | good tag crc c => exact ⟨tag, crc, _, State.endTransaction_of_good full read⟩

end Endings

/-! ## The statements -/

/-- Settles O7. -/
theorem shortTransactionInterrupts : Obligations.ShortTransactionInterrupts := by
  intro s p t sdi front short later counted ends
  have run : exec (.shortTransaction p sdi) s = .next (s.setPort p
      { s.port p with
        transactions := later, linkErrors := counted, held := heldAfterShort t.began (s.port p).held }) := by
    refine congrArg Host.Outcome.next ?_
    rw [State.endTransaction_of_short short, State.endShort_of_some front, saturatingSucc_half]
  refine ⟨fun x began held => ?_, fun began => ?_, fun unready => ?_⟩
  · rw [began, held] at run
    exact run
  · rw [heldAfterShort_of_not_ready began] at run
    exact run
  · rw [heldAfterShort_of_unready unready] at run
    exact run

/-- Settles O8. -/
theorem badRequestAnsweredLinkError : Obligations.BadRequestAnsweredLinkError := by
  intro s p t sdi front began full bad later counted
  refine congrArg Host.Outcome.next ?_
  rw [State.endTransaction_of_bad full bad, State.endBad_of_answered front began, saturatingSucc_half]

/-- Settles O9. -/
theorem requestDiscardedUnexecuted : Obligations.RequestDiscardedUnexecuted := by
  intro s p sdi full bad later counted restarted ends
  have good (notBad : ¬bad) : ∃ tag crc command,
      exec (.requestDiscarded p sdi) s = .next (s.endGood p tag crc command) := by
    obtain ⟨tag, crc, command, run⟩ := State.endTransaction_of_not_bad (s := s) (p := p) full notBad
    exact ⟨tag, crc, command, congrArg Host.Outcome.next run⟩
  have faulty (isBad : bad) : exec (.requestDiscarded p sdi) s = .next (s.endBad p) :=
    congrArg Host.Outcome.next (State.endTransaction_of_bad full isBad)
  refine ⟨fun t front began => ⟨fun notBad => ?_, fun isBad => ?_⟩,
    fun t front began => ⟨fun notBad => ?_, fun isBad => ?_⟩,
    fun none => congrArg Host.Outcome.next (State.endTransaction_none none sdi)⟩
  · obtain ⟨tag, crc, command, run⟩ := good notBad
    rw [State.endGood_of_interrupted front began] at run
    exact run
  · have run := faulty isBad
    rw [State.endBad_of_interrupted front began, saturatingSucc_half] at run
    exact run
  · obtain ⟨tag, crc, command, run⟩ := good notBad
    rw [State.endGood_of_preparing front began] at run
    exact run
  · have run := faulty isBad
    rw [State.endBad_of_preparing front began, saturatingSucc_half] at run
    exact run

/-- Settles O10. -/
theorem repeatAnsweredFromRecord : Obligations.RepeatAnsweredFromRecord := by
  intro s p t tag k front began record nonzero sameTag answered
  have repeats {crc : Half} (sameCrc : k.crc = crc) (command : State → Reply) :
      s.endGood p tag crc command = answered :=
    State.endGood_of_repeated front began
      (PortController.repeated_of_record record nonzero sameTag sameCrc)
  refine ⟨fun sdi c full request => congrArg Host.Outcome.next ?_, fun i c row sameCrc => ?_⟩
  · rcases request with good | unknown
    · rw [State.endTransaction_of_good full good, repeats rfl]
    · rw [State.endTransaction_of_unknown full unknown, repeats rfl]
  · rw [exec_of_request row, repeats sameCrc]

/-- Settles O11. -/
theorem unknownCommandRefused : Obligations.UnknownCommandRefused := by
  intro s p t sdi tag crc full request takes
  refine congrArg Host.Outcome.next ?_
  rw [State.endTransaction_of_unknown full request, State.endGood_takes takes]
  simp [unknownReply, refuse, State.taken]

end Sys2Proof.Machine
end

section
/-!
PROOF. What a step does to a port's controller, said once (`PortController.Moves`), and from it the statement
StepKeepsPortsSound (R146, R165, R169, R175).
-/
namespace Sys2Proof.Machine

/-! ## What a step does to a controller -/

/-- Only the port state and the detach cause change, and the port does not go OFFLINE. -/
def PortController.Relinked (c d : PortController) : Prop :=
  ∃ x cause, (x = .offline → c.state = .offline) ∧ d = { c with state := x, cause := cause }

/-- The end of transaction `t`: it leaves the controller, and the response is delivered, or kept, or
discarded. -/
structure PortController.Ends (c : PortController) (t : Transaction) (d : PortController) : Prop where
  online : d.state = .offline → c.state = .offline
  left : d.transactions = c.transactions.tail
  response : d.backlog = (c.backlog && !t.slot.flags.backlog) ∨
    (d.backlog = c.backlog ∧ (c.held = .none → d.held = .none)) ∨ d.held = .none

/-- The controller of port `p` after command `i`. -/
inductive PortController.Moves (i : Instr) (s : State) (p : PortId) : PortController → Prop
  | relinked {d : PortController} (same : (s.port p).Relinked d) : Moves i s p d
  | cleared {d : PortController}
      (clear : d.held = .none ∧ d.backlog = false ∧ d.repeatRecord = none ∧ d.transactions = []) :
      Moves i s p d
  | begins (row : i = .transactionStart p) (online : (s.port p).state ≠ .offline) :
      Moves i s p { s.port p with
        transactions := (s.port p).transactions ++
          [{ began := (s.port p).held.state, slot := s.chosenSlot p }] }
  | ready {r : Response} {due : Time} (slot : Slot) (held : (s.port p).held = .preparing r due) :
      Moves i s p { s.port p with held := .ready slot }
  | ends {d : PortController} (t : Transaction) (front : (s.port p).transaction = some t)
      (ended : (s.port p).Ends t d) : Moves i s p d

theorem PortController.Relinked.refl (c : PortController) : c.Relinked c :=
  ⟨c.state, c.cause, id, rfl⟩

section Frames

variable {s t : State} {p q : PortId} {i : Instr}

theorem PortController.Moves.of_ports (same : t.ports = s.ports) (q : PortId) :
    PortController.Moves i s q (t.port q) := by
  rw [State.port, same]
  exact .relinked (.refl _)

theorem PortController.Moves.setPort {c : PortController} (moved : PortController.Moves i s p c)
    (q : PortId) : PortController.Moves i s q ((s.setPort p c).port q) := by
  by_cases own : q = p
  · subst own
    rwa [State.port_setPort]
  · rw [State.port_setPort_of_ne _ _ own]
    exact .relinked (.refl _)

theorem PortController.Relinked.setPort {c : PortController} (same : (s.port p).Relinked c) (q : PortId) :
    (s.port q).Relinked ((s.setPort p c).port q) := by
  by_cases own : q = p
  · subst own
    rwa [State.port_setPort]
  · rw [State.port_setPort_of_ne _ _ own]
    exact .refl _

/-- A teardown gives its port the controller its caller names, and no other port anything. -/
theorem State.forall_port_tearDown {R : PortId → PortController → Prop}
    {next : PortController → PortController} (own : R p (next (s.port p)))
    (others : ∀ q, R q (s.port q)) (q : PortId) : R q ((s.tearDown p next).port q) := by
  by_cases same : q = p
  · subst same
    rw [State.port_tearDown]
    exact own
  · rw [State.port_tearDown_of_ne _ _ _ same]
    exact others q

theorem PortController.relinked_detached (c : PortController) (cause : DetachCause) :
    c.Relinked (c.detached cause) :=
  ⟨.linked, cause, nofun, rfl⟩

end Frames

/-! ## The commands (R180) -/

section Answers

variable {s : State} {p : PortId}

theorem State.ports_attachedOnly {r : Reply} (run : r.state.ports = s.ports) :
    (s.attachedOnly p r).state.ports = s.ports := by
  unfold State.attachedOnly
  split
  · exact run
  · rfl

theorem State.ports_ownSchedule {b : Byte} {k : ScheduleId → Schedule → Reply}
    (run : ∀ i x, (k i x).state.ports = s.ports) : (s.ownSchedule p b k).state.ports = s.ports := by
  refine State.ports_attachedOnly ?_
  split
  next => rfl
  next i _ =>
    split
    next => rfl
    next x _ =>
      split
      next => exact run i x
      next => rfl

theorem ports_convertReply (tag : Half) (channel gate priority : Byte) :
    (convertReply p tag channel gate priority s).state.ports = s.ports := by
  refine State.ports_attachedOnly ?_
  split
  next => split <;> simp [refuse]
  next => rfl

theorem ports_cancelReply (target : Half) : (cancelReply p target s).state.ports = s.ports := by
  refine State.ports_attachedOnly ?_
  split
  next => rfl
  next => dsimp only; split <;> simp [refuse]

theorem ports_fetchReply : (fetchReply p s).state.ports = s.ports := by
  refine State.ports_attachedOnly ?_
  split <;> rfl

theorem ports_schedAddReply (channel gate priority : Byte) (periodMs : Word) :
    (schedAddReply p channel gate priority periodMs s).state.ports = s.ports := by
  refine State.ports_attachedOnly ?_
  split
  next =>
    split
    next => rfl
    next => split <;> rfl
  next => rfl

theorem ports_schedDeleteReply (b : Byte) : (schedDeleteReply p b s).state.ports = s.ports :=
  State.ports_ownSchedule fun _ _ => by simp

theorem ports_schedPauseReply (b : Byte) : (schedPauseReply p b s).state.ports = s.ports :=
  State.ports_ownSchedule fun _ _ => by split <;> rfl

theorem ports_schedResumeReply (b : Byte) : (schedResumeReply p b s).state.ports = s.ports :=
  State.ports_ownSchedule fun _ _ => by split <;> rfl

theorem ports_schedStatusReply (b : Byte) : (schedStatusReply p b s).state.ports = s.ports := by
  refine State.ports_attachedOnly ?_
  split
  next => rfl
  next => split <;> rfl

theorem ports_watchSetReply (slot channel : Byte) (low high hyst : Word) (notify priority : Byte) :
    (watchSetReply p slot channel low high hyst notify priority s).state.ports = s.ports := by
  refine State.ports_attachedOnly ?_
  split
  next => split <;> rfl
  next => rfl

theorem ports_watchClearReply (slot : Byte) : (watchClearReply p slot s).state.ports = s.ports := by
  refine State.ports_attachedOnly ?_
  split
  next => rfl
  next => dsimp only; split <;> rfl

theorem ports_ackNoticeReply (source : Byte) (generation : Half) :
    (ackNoticeReply p source generation s).state.ports = s.ports := by
  refine State.ports_attachedOnly ?_
  split
  next => rfl
  next =>
    dsimp only
    split
    next => rfl
    next => split <;> rfl

theorem ports_leaseReply (tag : Half) (group kind : Byte) (termMs : Word) :
    (leaseReply p tag group kind termMs s).state.ports = s.ports := by
  refine State.ports_attachedOnly ?_
  split
  next =>
    repeat' split
    all_goals rfl
  next => rfl

theorem ports_withdrawReply (target : Half) : (withdrawReply p target s).state.ports = s.ports := by
  refine State.ports_attachedOnly ?_
  split
  next => rfl
  next => split <;> rfl

theorem ports_renewReply (group kind : Byte) (termMs : Word) :
    (renewReply p group kind termMs s).state.ports = s.ports := by
  refine State.ports_attachedOnly ?_
  split
  next =>
    split
    next => rfl
    next => split <;> simp [refuse, State.grant]
  next => rfl

theorem ports_releaseReply (group : Byte) : (releaseReply p group s).state.ports = s.ports := by
  refine State.ports_attachedOnly ?_
  split
  next => rfl
  next => split <;> simp [refuse]

theorem ports_stageChannelReply (channel mask enabled reference : Byte) (gateLength settle : Half)
    (openLimit shortLimit : Tri) :
    (stageChannelReply p channel mask enabled reference gateLength settle openLimit shortLimit s).state.ports =
      s.ports := by
  refine State.ports_attachedOnly ?_
  split
  next => split <;> rfl
  next => rfl

theorem ports_stageReferenceReply (reference mask enabled : Byte) (settle cacheAgeMs holdOffMs : Half) :
    (stageReferenceReply p reference mask enabled settle cacheAgeMs holdOffMs s).state.ports = s.ports := by
  refine State.ports_attachedOnly ?_
  split
  next => split <;> rfl
  next => rfl

theorem ports_stageHubReply (mask : Byte) (ageStepMs extWaitMs : Half) :
    (stageHubReply p mask ageStepMs extWaitMs s).state.ports = s.ports := by
  refine State.ports_attachedOnly ?_
  split
  next => split <;> rfl
  next => rfl

theorem ports_unstageReply (selector : Byte) : (unstageReply p selector s).state.ports = s.ports := by
  refine State.ports_attachedOnly ?_
  split
  next => rfl
  next =>
    split
    next => rfl
    next => split <;> rfl
  next =>
    split
    next => rfl
    next => split <;> rfl

theorem State.ports_commit (s : State) (scope : CommitScope) : (s.commit scope).state.ports = s.ports := by
  unfold State.commit
  dsimp only
  split <;> simp

theorem ports_commitReply (selector : Byte) : (commitReply p selector s).state.ports = s.ports := by
  refine State.ports_attachedOnly ?_
  split
  next => rfl
  next scope _ =>
    split
    next => rfl
    next =>
      split
      next => rfl
      next =>
        split
        next => rfl
        next => exact s.ports_commit scope

theorem relinked_startBinding (client : Word) (q : PortId) :
    (s.port q).Relinked ((s.startBinding p client).port q) := by
  refine PortController.Relinked.setPort (s := s) ?_ q
  exact ⟨.binding client _, (s.port p).cause, nofun, rfl⟩

theorem relinked_attach (client : Word) (attention : Bool) (silenceMs : Half) (q : PortId) :
    (s.port q).Relinked ((s.attach p client attention silenceMs).port q) := by
  refine PortController.Relinked.setPort (s := s) ?_ q
  exact ⟨.attached _, .none, nofun, rfl⟩

theorem relinked_helloReply (client : Word) (q : PortId) :
    (s.port q).Relinked ((helloReply p client s).state.port q) := by
  unfold helloReply
  split
  next => exact .refl _
  next => exact relinked_startBinding client q
  next => exact relinked_startBinding client q
  next => exact .refl _

theorem relinked_bindReply (attention : Byte) (silenceMs : Half) (q : PortId) :
    (s.port q).Relinked ((bindReply p attention silenceMs s).state.port q) := by
  unfold bindReply
  split
  next =>
    split
    next => exact relinked_attach _ _ _ q
    next => exact .refl _
  all_goals exact .refl _

theorem relinked_detachReply (q : PortId) : (s.port q).Relinked ((detachReply p s).state.port q) := by
  unfold detachReply State.attachedOnly
  split
  next =>
    exact State.forall_port_tearDown (s := s) (p := p) (next := fun c => c.detached .detach)
      (R := fun q d => (s.port q).Relinked d) (PortController.relinked_detached _ _) (fun q => .refl _) q
  next => exact .refl _

theorem PortController.Relinked.of_ports {t : State} (same : t.ports = s.ports) (q : PortId) :
    (s.port q).Relinked (t.port q) := by
  rw [State.port, State.port, same]
  exact .refl _

/-- HELLO, BIND and DETACH change their own port's state and detach cause; the other commands no
controller. -/
theorem relinked_answer (tag : Half) (c : Command) (q : PortId) :
    (s.port q).Relinked ((answer p tag c s).state.port q) := by
  cases c with
  | hello client => exact relinked_helloReply client q
  | bind attention silenceMs => exact relinked_bindReply attention silenceMs q
  | detach => exact relinked_detachReply q
  | nop => exact .refl _
  | portStatus => exact .refl _
  | queueStatus => exact .of_ports (State.ports_attachedOnly (s := s) rfl) q
  | readHub => exact .of_ports (State.ports_attachedOnly (s := s) rfl) q
  | readResult channel => exact .of_ports (State.ports_attachedOnly (by split <;> rfl)) q
  | readNotices start => exact .of_ports (State.ports_attachedOnly (by split <;> rfl)) q
  | groupStatus group => exact .of_ports (State.ports_attachedOnly (by split <;> rfl)) q
  | readChannel channel => exact .of_ports (State.ports_attachedOnly (by split <;> rfl)) q
  | convert channel gate priority => exact .of_ports (ports_convertReply tag channel gate priority) q
  | cancel target => exact .of_ports (ports_cancelReply target) q
  | fetch => exact .of_ports ports_fetchReply q
  | schedAdd channel gate priority periodMs =>
    exact .of_ports (ports_schedAddReply channel gate priority periodMs) q
  | schedDelete schedule => exact .of_ports (ports_schedDeleteReply schedule) q
  | schedPause schedule => exact .of_ports (ports_schedPauseReply schedule) q
  | schedResume schedule => exact .of_ports (ports_schedResumeReply schedule) q
  | schedStatus schedule => exact .of_ports (ports_schedStatusReply schedule) q
  | watchSet slot channel low high hyst notify priority =>
    exact .of_ports (ports_watchSetReply slot channel low high hyst notify priority) q
  | watchClear slot => exact .of_ports (ports_watchClearReply slot) q
  | ackNotice source generation => exact .of_ports (ports_ackNoticeReply source generation) q
  | lease group kind termMs => exact .of_ports (ports_leaseReply tag group kind termMs) q
  | withdraw target => exact .of_ports (ports_withdrawReply target) q
  | renew group kind termMs => exact .of_ports (ports_renewReply group kind termMs) q
  | release group => exact .of_ports (ports_releaseReply group) q
  | stageChannel channel mask enabled reference gateLength settle openLimit shortLimit =>
    exact .of_ports
      (ports_stageChannelReply channel mask enabled reference gateLength settle openLimit shortLimit) q
  | stageReference reference mask enabled settle cacheAgeMs holdOffMs =>
    exact .of_ports (ports_stageReferenceReply reference mask enabled settle cacheAgeMs holdOffMs) q
  | stageHub mask ageStepMs extWaitMs => exact .of_ports (ports_stageHubReply mask ageStepMs extWaitMs) q
  | unstage selector => exact .of_ports (ports_unstageReply selector) q
  | commit selector => exact .of_ports (ports_commitReply selector) q

end Answers

/-! ## The end of a transaction -/

section Endings

variable {s : State} {p : PortId} {t : Transaction} {i : Instr}

theorem restartedSilence_eq_offline {now : Time} {x : PortState}
    (offline : restartedSilence now x = .offline) : x = .offline := by
  cases x with
  | attached a =>
    unfold restartedSilence at offline
    dsimp only at offline
    split at offline <;> cases offline
  | offline => rfl
  | linked => cases offline
  | binding => cases offline

/-- Every request of a transaction that began with NONE or READY is answered. -/
theorem PortController.ends_answered {c d : PortController} {now : Time} {x : Held}
    {record : Option RepeatRecord} (relinked : (c.taking t now).Relinked d) :
    c.Ends t { d with held := x, repeatRecord := record } := by
  obtain ⟨state, cause, online, rfl⟩ := relinked
  exact ⟨fun offline => restartedSilence_eq_offline (online offline), rfl, .inl rfl⟩

theorem PortController.moves_endShort (q : PortId) :
    PortController.Moves i s q ((s.endShort p).port q) := by
  cases front : (s.port p).transaction with
  | none =>
    rw [State.endShort_none front]
    exact .of_ports rfl q
  | some t =>
    rw [State.endShort_of_some front]
    refine PortController.Moves.setPort ?_ q
    refine .ends t front ⟨id, rfl, .inr (.inl ⟨rfl, fun held => ?_⟩)⟩
    exact (heldAfterShort_of_unready (by rw [held]; nofun) t.began).trans held

theorem PortController.moves_endBad (q : PortId) :
    PortController.Moves i s q ((s.endBad p).port q) := by
  cases front : (s.port p).transaction with
  | none =>
    rw [State.endBad_none front]
    exact .of_ports rfl q
  | some t =>
    cases began : t.began with
    | none =>
      rw [State.endBad_of_answered front (.inl began)]
      refine PortController.Moves.setPort ?_ q
      exact .ends t front ⟨id, rfl, .inl rfl⟩
    | ready =>
      rw [State.endBad_of_answered front (.inr began)]
      refine PortController.Moves.setPort ?_ q
      exact .ends t front ⟨id, rfl, .inl rfl⟩
    | interrupted =>
      rw [State.endBad_of_interrupted front began]
      refine PortController.Moves.setPort ?_ q
      exact .ends t front ⟨id, rfl, .inr (.inr rfl)⟩
    | preparing =>
      rw [State.endBad_of_preparing front began]
      refine PortController.Moves.setPort ?_ q
      exact .ends t front ⟨id, rfl, .inr (.inl ⟨rfl, id⟩)⟩

/-- The request is answered; the command may change its port's state (R147, R149, R153). -/
theorem PortController.moves_endGood_answered {tag crc : Half} {command : State → Reply}
    (run : ∀ (u : State) q, (u.port q).Relinked ((command u).state.port q))
    (front : (s.port p).transaction = some t) (began : t.began = .none ∨ t.began = .ready) (q : PortId) :
    PortController.Moves i s q ((s.endGood p tag crc command).port q) := by
  cases again : (s.port p).repeated tag crc with
  | some r =>
    rw [State.endGood_of_repeated front began again]
    exact PortController.Moves.setPort (.ends t front (PortController.ends_answered (.refl _))) q
  | none =>
    rw [State.endGood_takes ⟨front, began, again⟩]
    have answered := run (s.taken p t) q
    by_cases own : q = p
    · subst own
      rw [State.port_taken] at answered
      rw [State.port_setPort]
      exact .ends t front (PortController.ends_answered answered)
    · rw [State.port_taken_of_ne own] at answered
      rw [State.port_setPort_of_ne _ _ own]
      exact .relinked answered

theorem PortController.moves_endGood {tag crc : Half} {command : State → Reply}
    (run : ∀ (u : State) q, (u.port q).Relinked ((command u).state.port q)) (q : PortId) :
    PortController.Moves i s q ((s.endGood p tag crc command).port q) := by
  cases front : (s.port p).transaction with
  | none =>
    rw [State.endGood_none front]
    exact .of_ports rfl q
  | some t =>
    cases began : t.began with
    | none => exact PortController.moves_endGood_answered run front (.inl began) q
    | ready => exact PortController.moves_endGood_answered run front (.inr began) q
    | interrupted =>
      rw [State.endGood_of_interrupted front began]
      refine PortController.Moves.setPort ?_ q
      exact .ends t front ⟨restartedSilence_eq_offline, rfl, .inr (.inr rfl)⟩
    | preparing =>
      rw [State.endGood_of_preparing front began]
      refine PortController.Moves.setPort ?_ q
      exact .ends t front ⟨restartedSilence_eq_offline, rfl, .inr (.inl ⟨rfl, id⟩)⟩

theorem PortController.moves_endTransaction (sdi : List Bool) (q : PortId) :
    PortController.Moves i s q ((s.endTransaction p sdi).port q) := by
  unfold State.endTransaction
  split
  next => exact PortController.moves_endShort q
  next =>
    split
    next => exact PortController.moves_endBad q
    next => exact PortController.moves_endGood (fun u q => .refl _) q
    next tag _ c _ => exact PortController.moves_endGood (fun u q => relinked_answer tag c q) q

end Endings

/-! ## The events -/

section Events

variable {s : State} {p : PortId} {i : Instr}

theorem PortController.moves_beginTransaction (q : PortId) :
    PortController.Moves (.transactionStart p) s q ((s.beginTransaction p).port q) := by
  by_cases ignored : s.inReset = true ∨ (s.port p).state = .offline
  · rw [State.beginTransaction_of_ignored ignored]
    exact .of_ports rfl q
  · obtain ⟨running, online⟩ := not_or.mp ignored
    rw [State.beginTransaction_of_begins (Bool.eq_false_iff.mpr running) online rfl rfl]
    exact PortController.Moves.setPort (.begins rfl online) q

theorem PortController.moves_readyExpires (q : PortId) :
    PortController.Moves i s q ((s.readyExpires p).port q) := by
  unfold State.readyExpires
  split
  next r readyAt held =>
    split
    next => exact PortController.Moves.setPort (.ready _ held) q
    next => exact .of_ports rfl q
  all_goals exact .of_ports rfl q

theorem PortController.moves_bindWindowExpires (q : PortId) :
    PortController.Moves i s q ((s.bindWindowExpires p).port q) := by
  unfold State.bindWindowExpires
  split
  next =>
    split
    next => exact PortController.Moves.setPort (.relinked ⟨.linked, (s.port p).cause, nofun, rfl⟩) q
    next => exact .of_ports rfl q
  all_goals exact .of_ports rfl q

theorem PortController.moves_silenceExpires (q : PortId) :
    PortController.Moves i s q ((s.silenceExpires p).port q) := by
  unfold State.silenceExpires
  split
  next =>
    split
    next =>
      exact State.forall_port_tearDown (R := PortController.Moves i s)
        (.relinked (PortController.relinked_detached _ _)) (fun q => .relinked (.refl _)) q
    next => exact .of_ports rfl q
  all_goals exact .of_ports rfl q

theorem PortController.moves_assertPortReset (q : PortId) :
    PortController.Moves i s q ((s.assertPortReset p).port q) := by
  unfold State.assertPortReset
  split
  next => exact PortController.Moves.setPort (.cleared ⟨rfl, rfl, rfl, rfl⟩) q
  next =>
    split
    next =>
      exact State.forall_port_tearDown (R := PortController.Moves i s) (.cleared ⟨rfl, rfl, rfl, rfl⟩)
        (fun q => .relinked (.refl _)) q
    next => exact PortController.Moves.setPort (.cleared ⟨rfl, rfl, rfl, rfl⟩) q
    next => exact PortController.Moves.setPort (.cleared ⟨rfl, rfl, rfl, rfl⟩) q
    next => exact .of_ports rfl q

theorem PortController.moves_releasePortReset (q : PortId) :
    PortController.Moves i s q ((s.releasePortReset p).port q) := by
  unfold State.releasePortReset
  split
  next => exact PortController.Moves.setPort (.relinked ⟨.linked, (s.port p).cause, nofun, rfl⟩) q
  next => exact .of_ports rfl q

theorem PortController.moves_resetBlocks (inReset : Bool) (q : PortId) :
    PortController.Moves i s q ((s.resetBlocks inReset).port q) := by
  rw [State.port_resetBlocks]
  exact .cleared ⟨rfl, rfl, rfl, rfl⟩

theorem PortController.moves_releaseHubReset (q : PortId) :
    PortController.Moves i s q (s.releaseHubReset.port q) := by
  unfold State.releaseHubReset
  split
  next => exact PortController.moves_resetBlocks false q
  next => exact .of_ports rfl q

theorem State.ports_leaseExpires (g : GroupId) : (s.leaseExpires g).ports = s.ports := by
  unfold State.leaseExpires
  split
  next => rfl
  next => split <;> simp

theorem State.ports_scheduleDue (j : ScheduleId) : (s.scheduleDue j).ports = s.ports := by
  unfold State.scheduleDue
  split
  next => rfl
  next =>
    split
    next => rfl
    next =>
      split
      next => dsimp only; split <;> simp
      next => rfl

theorem State.ports_holdOffExpires (r : RefId) : (s.holdOffExpires r).ports = s.ports := by
  unfold State.holdOffExpires
  split
  next => split <;> rfl
  next => rfl

theorem State.ports_cacheExpires (r : RefId) : (s.cacheExpires r).ports = s.ports := by
  unfold State.cacheExpires
  split
  next => split <;> rfl
  next => rfl

theorem State.ports_settleExpiry (s : State) : s.settleExpiry.ports = s.ports := by
  unfold State.settleExpiry
  split
  next =>
    split
    next => split <;> simp
    all_goals rfl
  next => rfl

theorem State.ports_gateExpiry (s : State) : s.gateExpiry.ports = s.ports := by
  unfold State.gateExpiry
  split
  next =>
    split
    next => split <;> simp
    all_goals rfl
  next => rfl

theorem State.ports_stallExpiry (s : State) : s.stallExpiry.ports = s.ports := by
  unfold State.stallExpiry
  split
  next =>
    split
    next => split <;> simp
    all_goals rfl
  next => rfl

theorem State.ports_pairExpiry (s : State) : s.pairExpiry.ports = s.ports := by
  unfold State.pairExpiry
  split
  next =>
    split
    next => split <;> simp
    next => split <;> simp
    next => rfl
  next => rfl

theorem State.ports_oscillatorEdge (s : State) : s.oscillatorEdge.ports = s.ports := by
  unfold State.oscillatorEdge
  split
  next =>
    split
    next => split <;> simp
    all_goals rfl
  next => rfl

theorem State.ports_gateEdge (s : State) : s.gateEdge.ports = s.ports := by
  unfold State.gateEdge
  split
  next =>
    split
    next => simp
    next => split <;> simp
    next => rfl
  next => rfl

theorem State.ports_tick (s : State) : s.tick.ports = s.ports := by
  unfold State.tick
  split <;> rfl

theorem PortController.exec_event_moves (event : i.request = none) (s : State) :
    ∃ t, exec i s = .next t ∧ ∀ q, PortController.Moves i s q (t.port q) := by
  cases i with
  | portResetAssert p => exact ⟨_, rfl, PortController.moves_assertPortReset⟩
  | portResetRelease p => exact ⟨_, rfl, PortController.moves_releasePortReset⟩
  | hubReset => exact ⟨_, rfl, PortController.moves_resetBlocks true⟩
  | hubResetRelease => exact ⟨_, rfl, PortController.moves_releaseHubReset⟩
  | transactionStart p => exact ⟨_, rfl, PortController.moves_beginTransaction⟩
  | shortTransaction p sdi => exact ⟨_, rfl, PortController.moves_endTransaction sdi⟩
  | linkError p sdi => exact ⟨_, rfl, PortController.moves_endTransaction sdi⟩
  | requestDiscarded p sdi => exact ⟨_, rfl, PortController.moves_endTransaction sdi⟩
  | repeatRequest p sdi => exact ⟨_, rfl, PortController.moves_endTransaction sdi⟩
  | unknownCommand p sdi => exact ⟨_, rfl, PortController.moves_endTransaction sdi⟩
  | responseReady p => exact ⟨_, rfl, PortController.moves_readyExpires⟩
  | bindWindowExpiry p => exact ⟨_, rfl, PortController.moves_bindWindowExpires⟩
  | silenceExpiry p => exact ⟨_, rfl, PortController.moves_silenceExpires⟩
  | leaseExpiry g => exact ⟨_, rfl, .of_ports (s.ports_leaseExpires g)⟩
  | scheduleDue j => exact ⟨_, rfl, .of_ports (s.ports_scheduleDue j)⟩
  | holdOffExpiry r => exact ⟨_, rfl, .of_ports (s.ports_holdOffExpires r)⟩
  | cacheExpiry r => exact ⟨_, rfl, .of_ports (s.ports_cacheExpires r)⟩
  | agingCapExpiry position => exact ⟨_, rfl, .of_ports rfl⟩
  | settleEnd => exact ⟨_, rfl, .of_ports s.ports_settleExpiry⟩
  | gateClose => exact ⟨_, rfl, .of_ports s.ports_gateExpiry⟩
  | stall => exact ⟨_, rfl, .of_ports s.ports_stallExpiry⟩
  | pairDeadlineExpiry => exact ⟨_, rfl, .of_ports s.ports_pairExpiry⟩
  | oscillatorEdge => exact ⟨_, rfl, .of_ports s.ports_oscillatorEdge⟩
  | gateRisingEdge => exact ⟨_, rfl, .of_ports s.ports_gateEdge⟩
  | hubTimeAdvance => exact ⟨_, rfl, .of_ports s.ports_tick⟩
  | _ => cases event

theorem PortController.exec_moves (i : Instr) (s : State) :
    ∃ t, exec i s = .next t ∧ ∀ q, PortController.Moves i s q (t.port q) := by
  cases row : i.request with
  | none => exact PortController.exec_event_moves row s
  | some request =>
    obtain ⟨p, tag, c⟩ := request
    exact ⟨_, exec_of_request row s, PortController.moves_endGood fun u q => relinked_answer tag c q⟩

end Events

/-! ## What every step keeps -/

section Steps

variable {s t : State} {p : PortId} {i : Instr} {d : PortController}

/-- R165: what a transaction that begins shifts. -/
theorem State.chosenSlot_sound (began : (s.port p).held.state = .none ∨ (s.port p).held.state = .preparing) :
    s.chosenSlot p = s.composed p (if (s.port p).held.state = .none then .idle else .notReady) := by
  cases held : (s.port p).held with
  | none => exact State.chosenSlot_of_none held
  | preparing r readyAt => exact State.chosenSlot_of_preparing held
  | ready slot => simp [held, Held.state] at began
  | interrupted slot => simp [held, Held.state] at began

theorem PortController.Sound.moves (h : (s.port p).Sound) (moved : PortController.Moves i s p d) :
    d.Sound := by
  cases moved with
  | relinked same =>
    obtain ⟨x, cause, online, rfl⟩ := same
    exact ⟨fun offline => h.offline (online offline), h.idle, h.notReady⟩
  | cleared clear =>
    obtain ⟨held, backlog, record, transactions⟩ := clear
    exact ⟨fun _ => ⟨held, backlog, record, transactions⟩, by simp [transactions], by simp [transactions]⟩
  | begins row online =>
    refine ⟨fun offline => absurd offline online, fun t ht began => ?_, fun t ht began => ?_⟩
    · rcases List.mem_append.mp ht with old | new
      · exact h.idle t old began
      · rw [List.mem_singleton] at new
        subst new
        have slot := State.chosenSlot_sound (.inl began)
        rw [if_pos began] at slot
        dsimp only
        rw [slot]
        exact ⟨rfl, rfl, rfl⟩
    · rcases List.mem_append.mp ht with old | new
      · exact h.notReady t old began
      · rw [List.mem_singleton] at new
        subst new
        have preparing : (s.port p).held.state = .preparing := began
        have slot := State.chosenSlot_sound (.inr preparing)
        rw [if_neg (by rw [preparing]; decide)] at slot
        dsimp only
        rw [slot]
        exact ⟨rfl, rfl, rfl⟩
  | ready slot held =>
    refine ⟨fun offline => ?_, h.idle, h.notReady⟩
    rw [(h.offline offline).1] at held
    cases held
  | ends t front ended =>
    have left := ended.left
    have sub : ∀ t ∈ d.transactions, t ∈ (s.port p).transactions := fun t ht =>
      List.mem_of_mem_tail (left ▸ ht)
    refine ⟨fun offline => ?_, fun t ht => h.idle t (sub t ht), fun t ht => h.notReady t (sub t ht)⟩
    have front : (s.port p).transactions.head? = some t := front
    rw [(h.offline (ended.online offline)).2.2.2] at front
    cases front

theorem PortController.BacklogSound.moves (h : (s.port p).BacklogSound)
    (alone : i = .transactionStart p → (s.port p).transaction = none)
    (moved : PortController.Moves i s p d) : d.BacklogSound := by
  cases moved with
  | relinked same =>
    obtain ⟨x, cause, -, rfl⟩ := same
    exact ⟨h.single, h.unheld, h.carried⟩
  | cleared clear =>
    obtain ⟨held, backlog, -, transactions⟩ := clear
    exact ⟨by simp [transactions], fun _ => held, by simp [backlog]⟩
  | begins row =>
    have empty : (s.port p).transactions = [] := List.head?_eq_none_iff.mp (alone row)
    refine ⟨by simp [empty], h.unheld, fun backlog t front => ?_⟩
    have slot : s.chosenSlot p = s.composed p .idle := State.chosenSlot_of_none (h.unheld backlog)
    rw [PortController.transaction, empty] at front
    cases front
    dsimp only
    rw [slot]
    exact backlog
  | ready slot held =>
    refine ⟨h.single, fun backlog => ?_, h.carried⟩
    rw [h.unheld backlog] at held
    cases held
  | ends t front ended =>
    obtain ⟨-, left, response⟩ := ended
    have single := h.single
    have empty : d.transactions = [] := by
      rw [left, ← List.length_eq_zero_iff, List.length_tail]
      omega
    refine ⟨by simp [empty], fun backlog => ?_, fun _ t front => ?_⟩
    · rcases response with delivered | ⟨same, kept⟩ | none
      · rw [delivered, Bool.and_eq_true] at backlog
        rw [h.carried backlog.1 t front] at backlog
        cases backlog.2
      · exact kept (h.unheld (same ▸ backlog))
      · exact none
    · rw [PortController.transaction, empty] at front
      cases front

/-- The command taken, and what it does to every controller. -/
theorem step_moves (next : step s = .next t) : t = s ∨ ∃ i rest, s.pending = i :: rest ∧
    ∀ q, PortController.Moves i (s.setPending rest) q (t.port q) := by
  unfold step at next
  split at next
  next =>
    cases next
    exact .inl rfl
  next i rest pending =>
    obtain ⟨t', run, moves⟩ := PortController.exec_moves i (s.setPending rest)
    rw [run] at next
    cases next
    exact .inr ⟨i, rest, pending, moves⟩

end Steps

/-- Settles O59: by what a step does to a controller. -/
theorem stepKeepsPortsSound : Obligations.StepKeepsPortsSound := by
  refine ⟨fun s t h next p => ?_, fun s t h alone next p => ?_⟩
  · rcases step_moves next with rfl | ⟨i, rest, -, moves⟩
    · exact h p
    · exact PortController.Sound.moves (s := s.setPending rest) (h p) (moves p)
  · rcases step_moves next with rfl | ⟨i, rest, pending, moves⟩
    · exact h p
    · exact PortController.BacklogSound.moves (s := s.setPending rest) (i := i) (h p)
        (fun row => alone p (by rw [pending, row]; rfl)) (moves p)

end Sys2Proof.Machine
end

section
/-!
PROOF. The reset state has every property that the steps keep: the statement ResetStateIsSound. And the command at
the front of the queue: StepTakesFrontCommand.
-/
namespace Sys2Proof.Machine

/-! ## The reset state -/

section Reset

variable (s : State) (inReset : Bool)

theorem State.selectionSound_resetBlocks : (s.resetBlocks inReset).SelectionSound := rfl

theorem State.counterSound_resetBlocks : (s.resetBlocks inReset).CounterSound := fun _ => rfl

/-- R189: the queue is empty. -/
theorem State.arbiterSound_resetBlocks : (s.resetBlocks inReset).ArbiterSound := fun _ => nofun

theorem State.accountsSound_resetBlocks : (s.resetBlocks inReset).AccountsSound :=
  fun p _ => s.holdsNothing_resetBlocks inReset p

theorem State.creditSound_resetBlocks : (s.resetBlocks inReset).CreditSound :=
  fun p => (s.accounted_resetBlocks inReset p).credit

theorem State.tagsSound_resetBlocks : (s.resetBlocks inReset).TagsSound :=
  fun p => (s.accounted_resetBlocks inReset p).tag

theorem PortController.sound_reset (x : PortState) : (PortController.reset x).Sound :=
  ⟨fun _ => ⟨rfl, rfl, rfl, rfl⟩, fun _ ht => absurd ht List.not_mem_nil,
    fun _ ht => absurd ht List.not_mem_nil⟩

theorem PortController.backlogSound_reset (x : PortState) : (PortController.reset x).BacklogSound :=
  ⟨Nat.zero_le 1, fun backlog => absurd backlog Bool.false_ne_true,
    fun backlog => absurd backlog Bool.false_ne_true⟩

theorem State.portsSound_resetBlocks : (s.resetBlocks inReset).PortsSound := by
  intro p
  rw [State.port_resetBlocks]
  exact PortController.sound_reset _

theorem State.backlogSound_resetBlocks : (s.resetBlocks inReset).BacklogSound := by
  intro p
  rw [State.port_resetBlocks]
  exact PortController.backlogSound_reset _

/-- The part right after a hub reset is at its reset values. -/
theorem State.reset_eq_resetBlocks : State.reset = State.reset.resetBlocks false := by
  have ports : State.reset.ports = State.reset.ports.map PortController.hubReset := by decide
  exact congrArg (State.setPorts State.reset) ports

end Reset

/-- Settles O60. -/
theorem resetStateIsSound : Obligations.ResetStateIsSound := by
  unfold Obligations.ResetStateIsSound
  rw [State.reset_eq_resetBlocks]
  exact ⟨State.configSound_resetBlocks _ _, State.resetSound_resetBlocks _ _,
    State.accountsSound_resetBlocks _ _, State.selectionSound_resetBlocks _ _,
    State.arbiterSound_resetBlocks _ _, State.creditSound_resetBlocks _ _, State.tagsSound_resetBlocks _ _,
    State.noticesSound_resetBlocks _ _, State.waitListsSound_resetBlocks _ _,
    State.stagingSound_resetBlocks _ _, State.portsSound_resetBlocks _ _,
    State.backlogSound_resetBlocks _ _, State.counterSound_resetBlocks _ _⟩

/-! ## The front of the queue -/

/-- Settles O1. -/
theorem stepTakesFrontCommand : Obligations.StepTakesFrontCommand := by
  refine ⟨fun s c rest => rfl, fun s empty => ?_⟩
  unfold step
  rw [empty]

end Sys2Proof.Machine
end

section
/-!
PROOF. Bits on the link (R161): the bytes sent come back from the bits, so the bits of a command's request slot do
what the command's row does, whatever the row that carries them is called (log 5).
-/
namespace Sys2Proof.Machine

theorem byteOfBits_bitsOfByte (b : Byte) : byteOfBits (bitsOfByte b) = b := by
  revert b
  decide

theorem length_bitsOfByte (b : Byte) : (bitsOfByte b).length = 8 := by
  simp [bitsOfByte]

/-- R161: the bytes come back from their bits, whatever edges follow. -/
theorem bytesOfBits_bitsOfBytes (bytes : List Byte) (extra : List Bool) :
    bytesOfBits bytes.length (bitsOfBytes bytes ++ extra) = bytes := by
  induction bytes with
  | nil => rfl
  | cons b bytes ih =>
    have bits : bitsOfBytes (b :: bytes) ++ extra = bitsOfByte b ++ (bitsOfBytes bytes ++ extra) :=
      List.append_assoc ..
    rw [bits, List.length_cons, bytesOfBits, List.take_left' (length_bitsOfByte b),
      List.drop_left' (length_bitsOfByte b), byteOfBits_bitsOfByte, ih]

theorem length_bitsOfBytes (bytes : List Byte) : (bitsOfBytes bytes).length = 8 * bytes.length := by
  induction bytes with
  | nil => rfl
  | cons b bytes ih =>
    rw [bitsOfBytes, List.flatMap_cons, List.length_append, length_bitsOfByte, ← bitsOfBytes, ih,
      List.length_cons]
    omega

theorem receivedSlot_bitsOfBytes {bytes : List Byte} (whole : bytes.length = 64) (extra : List Bool) :
    receivedSlot (bitsOfBytes bytes ++ extra) = bytes := by
  have back := bytesOfBits_bitsOfBytes bytes extra
  rwa [whole] at back

theorem checkRequest_receivedSlot {tag : Half} {c : Command} {padding : List Byte}
    (whole : (requestSlot tag c padding).length = 64) (extra : List Bool) :
    checkRequest (receivedSlot (bitsOfBytes (requestSlot tag c padding) ++ extra)) =
      .good tag (requestCrc tag c) c := by
  rw [receivedSlot_bitsOfBytes whole, checkRequest_requestSlot]

/-- Settles O13. -/
theorem requestSlotReadsBack : Obligations.RequestSlotReadsBack :=
  fun _ _ _ extra whole => checkRequest_receivedSlot whole extra

theorem request_ofRequest (p : PortId) (tag : Half) (c : Command) :
    (Instr.ofRequest p tag c).request = some (p, tag, c) := by
  cases c <;> rfl

/-- The rows of a transaction's end are one meaning under five names. -/
theorem exec_endOfTransaction {s : State} {p : PortId} {sdi : List Bool} {i : Instr}
    (row : i ∈ [Instr.shortTransaction p sdi, .linkError p sdi, .requestDiscarded p sdi,
      .repeatRequest p sdi, .unknownCommand p sdi]) : exec i s = .next (s.endTransaction p sdi) := by
  simp only [List.mem_cons, List.not_mem_nil, or_false] at row
  rcases row with rfl | rfl | rfl | rfl | rfl <;> rfl

/-- Settles O14. -/
theorem bitsAndCommandRowAgree : Obligations.BitsAndCommandRowAgree := by
  constructor
  · intro s p sdi i row
    have named : exec (.repeatRequest p sdi) s = .next (s.endTransaction p sdi) := rfl
    rw [named]
    refine exec_endOfTransaction (p := p) (sdi := sdi) ?_
    simp only [List.mem_cons, List.not_mem_nil, or_false] at row ⊢
    rcases row with row | row | row | row <;> simp [row]
  · intro s p tag c padding extra whole sdi i row
    have full : 512 ≤ sdi.length := by
      rw [List.length_append, length_bitsOfBytes, whole]
      omega
    rw [exec_endOfTransaction row,
      State.endTransaction_of_good full (checkRequest_receivedSlot whole extra),
      exec_of_request (request_ofRequest p tag c)]

end Sys2Proof.Machine
end

section
/-!
PROOF. A command taken for execution, as its row's meaning; then the commands that only report, and the refusal of a
port that is not ATTACHED (R150, R177).
-/
namespace Sys2Proof.Machine

section Serving

variable {s : State} {p : PortId} {t : Transaction} {tag : Half} {c : Command} {i : Instr} {r : Reply}

/-- A command's row, from the reply of the block that owns it. -/
theorem exec_of_executes (row : i.request = some (p, tag, c)) (taken : s.Executes p t tag c)
    (reply : answer p tag c (s.taken p t) = r) :
    exec i s = .next (r.state.answered p tag c r.status r.payload) := by
  rw [exec_of_request row, State.endGood_executes taken, reply]

/-- The same for a command of an ATTACHED port. -/
theorem exec_of_serves (row : i.request = some (p, tag, c)) (served : s.Serves p t tag c)
    (reply : answer p tag c (s.taken p t) = (s.taken p t).attachedOnly p r) :
    exec i s = .next (r.state.answered p tag c r.status r.payload) := by
  obtain ⟨taken, attached⟩ := served
  refine exec_of_executes row taken (reply.trans ?_)
  exact State.attachedOnly_attached ((State.isAttached_taken p).trans attached) r

/-- R150: every command but NOP, HELLO, BIND and PORT_STATUS is a command of an ATTACHED port. -/
theorem answer_eq_attachedOnly (notNop : c ≠ .nop) (notStatus : c ≠ .portStatus)
    (notHello : ∀ client, c ≠ .hello client) (notBind : ∀ a ms, c ≠ .bind a ms) (u : State) :
    ∃ r, answer p tag c u = u.attachedOnly p r := by
  cases c with
  | nop => exact absurd rfl notNop
  | portStatus => exact absurd rfl notStatus
  | hello client => exact absurd rfl (notHello client)
  | bind a ms => exact absurd rfl (notBind a ms)
  | _ => exact ⟨_, rfl⟩

end Serving

/-- Settles O18. -/
theorem unattachedPortRefuses : Obligations.UnattachedPortRefuses := by
  intro s i p t tag c row taken unattached notNop notStatus notHello notBind
  obtain ⟨r, reply⟩ := answer_eq_attachedOnly (p := p) (tag := tag) notNop notStatus notHello notBind
    (s.taken p t)
  rw [State.attachedOnly_refused ((State.isAttached_taken p).trans unattached)] at reply
  exact exec_of_executes row taken reply

section Reports

variable {s : State} {p : PortId} {t : Transaction} {tag : Half} {b : Byte}

theorem reports_readResult (served : s.Serves p t tag (.readResult b)) :
    (∀ c, numbered 12 b = some c → exec (.readResult p tag b) s =
      .next ((s.taken p t).answered p tag (.readResult b) .done (readResultPayload (s.taken p t) c))) ∧
    (numbered 12 b = none → exec (.readResult p tag b) s =
      .next ((s.taken p t).answered p tag (.readResult b) .badParam [])) := by
  have run := exec_of_serves (i := .readResult p tag b) rfl served rfl
  refine ⟨fun c known => ?_, fun unknown => ?_⟩
  · rwa [known] at run
  · rwa [unknown] at run

theorem reports_schedStatus (served : s.Serves p t tag (.schedStatus b)) :
    (∀ i x, numbered 8 b = some i → s.schedule i = some x → exec (.schedStatus p tag b) s =
      .next ((s.taken p t).answered p tag (.schedStatus b) .done
        (schedStatusPayload (s.taken p t) i x))) ∧
    (∀ i, numbered 8 b = some i → s.schedule i = none → exec (.schedStatus p tag b) s =
      .next ((s.taken p t).answered p tag (.schedStatus b) .notFound (s.taken p t).occupancy)) ∧
    (numbered 8 b = none → exec (.schedStatus p tag b) s =
      .next ((s.taken p t).answered p tag (.schedStatus b) .badParam [])) := by
  have run := exec_of_serves (i := .schedStatus p tag b) rfl served rfl
  refine ⟨fun i x known found => ?_, fun i known free => ?_, fun unknown => ?_⟩
  · have found : (s.taken p t).schedule i = some x := found
    rw [known] at run
    dsimp only at run
    rwa [found] at run
  · have free : (s.taken p t).schedule i = none := free
    rw [known] at run
    dsimp only at run
    rwa [free] at run
  · rwa [unknown] at run

theorem reports_readNotices (served : s.Serves p t tag (.readNotices b)) :
    (b.toNat ≤ 10 → exec (.readNotices p tag b) s =
      .next ((s.taken p t).answered p tag (.readNotices b) .done
        (readNoticesPayload (s.portWatch p) b.toNat))) ∧
    (10 < b.toNat → exec (.readNotices p tag b) s =
      .next ((s.taken p t).answered p tag (.readNotices b) .badParam [])) := by
  have run := exec_of_serves (i := .readNotices p tag b) rfl served rfl
  refine ⟨fun within => ?_, fun beyond => ?_⟩
  · rwa [if_neg (Nat.not_lt.mpr within)] at run
  · rwa [if_pos beyond] at run

theorem reports_groupStatus (served : s.Serves p t tag (.groupStatus b)) :
    (∀ g, numbered 3 b = some g → exec (.groupStatus p tag b) s =
      .next ((s.taken p t).answered p tag (.groupStatus b) .done
        (groupStatusPayload p (s.taken p t) g))) ∧
    (numbered 3 b = none → exec (.groupStatus p tag b) s =
      .next ((s.taken p t).answered p tag (.groupStatus b) .badParam [])) := by
  have run := exec_of_serves (i := .groupStatus p tag b) rfl served rfl
  refine ⟨fun g known => ?_, fun unknown => ?_⟩
  · rwa [known] at run
  · rwa [unknown] at run

theorem reports_readChannel (served : s.Serves p t tag (.readChannel b)) :
    (∀ c, numbered 12 b = some c → exec (.readChannel p tag b) s =
      .next ((s.taken p t).answered p tag (.readChannel b) .done
        (readChannelPayload (s.taken p t) c))) ∧
    (numbered 12 b = none → exec (.readChannel p tag b) s =
      .next ((s.taken p t).answered p tag (.readChannel b) .badParam [])) := by
  have run := exec_of_serves (i := .readChannel p tag b) rfl served rfl
  refine ⟨fun c known => ?_, fun unknown => ?_⟩
  · rwa [known] at run
  · rwa [unknown] at run

end Reports

/-- Settles O17. -/
theorem reportsChangeNoState : Obligations.ReportsChangeNoState := by
  intro s p t tag u
  exact ⟨fun taken => exec_of_executes rfl taken rfl, fun taken => exec_of_executes rfl taken rfl,
    fun served => exec_of_serves rfl served rfl, fun _ => reports_readResult,
    fun _ => reports_schedStatus, fun _ => reports_readNotices, fun _ => reports_groupStatus,
    fun _ => reports_readChannel, fun served => exec_of_serves rfl served rfl⟩

end Sys2Proof.Machine
end

section
/-!
PROOF. The lengths of the response payloads (R184 to R188), and the statement EveryResponseFits: the longest, a
READ_NOTICES with three notices, has 57 bytes.
-/
namespace Sys2Proof.Machine

/-! ## Lengths of the parts -/

@[simp] theorem length_be24 (x : Tri) : (be24 x).length = 3 := rfl

@[simp] theorem length_be32 (x : Word) : (be32 x).length = 4 := rfl

@[simp] theorem length_outcomeBlock (seq : Word) (o : Outcome) : (outcomeBlock seq o).length = 29 := by
  have measured (m : Option Measured) : (measuredBytes m).length = 7 := by cases m <;> rfl
  simp [outcomeBlock, measured]

@[simp] theorem length_resultBlock (r : ResultRecord) : r.block.length = 29 := by
  unfold ResultRecord.block
  split <;> simp

@[simp] theorem length_originBytes (o : Origin) : o.bytes.length = 3 := by
  cases o <;> rfl

@[simp] theorem length_endBlock (x : RequestEnd) : x.block.length = 29 := by
  cases x with
  | published seq o => exact length_outcomeBlock seq o
  | aborted => exact List.length_replicate
  | disabled => exact List.length_replicate

theorem length_completionBytes (r : Completion) : r.bytes.length = 39 := by
  cases r <;> simp [Completion.bytes]

theorem length_noticeBytes (n : Notice) : n.bytes.length = 16 := by
  unfold Notice.bytes
  cases n.content <;> rfl

theorem length_leaseBytes (s : State) (g : GroupId) : (s.leaseBytes g).length = 11 := by
  unfold State.leaseBytes
  split <;> rfl

theorem length_occupancy (s : State) : s.occupancy.length = 8 := by
  rw [State.occupancy, List.length_map, everyIndex_length]

/-- A run of equally long items. -/
theorem length_flatMap_of_const {α : Type} {f : α → List Byte} {n : Nat} (each : ∀ a, (f a).length = n)
    (l : List α) : (l.flatMap f).length = l.length * n := by
  induction l with
  | nil => simp
  | cons a l ih =>
    rw [List.flatMap_cons, List.length_append, ih, each, List.length_cons, Nat.succ_mul, Nat.add_comm]

/-! ## Lengths of the reports -/

section Reports

variable (s : State) (p : PortId)

theorem length_portStatusPayload : (portStatusPayload p s).length ≤ 57 := by
  have ports : ((everyIndex 3).flatMap fun q =>
      (s.port q).state.code :: be32 (s.port q).state.clientInForce).length = 15 := by
    rw [length_flatMap_of_const (n := 5) fun q => rfl, everyIndex_length]
  unfold portStatusPayload
  simp only [List.length_append, ports, length_be16, length_be32, List.length_cons, List.length_nil]
  omega

/-- At most eight entries are listed. -/
theorem length_queueStatusPayload : (queueStatusPayload p s).length ≤ 57 := by
  have key : (inFlightKey s.engine).length = 2 := by unfold inFlightKey; split <;> rfl
  have few : (s.dispatchOrder.take Config.listedEntries).length ≤ 8 := List.length_take_le ..
  unfold queueStatusPayload
  simp only [List.length_append, key, length_flatMap_of_const (f := s.listedEntry) (n := 4) fun _ => rfl,
    List.length_cons, List.length_nil]
  omega

theorem length_readResultPayload (c : ChannelId) : (readResultPayload s c).length ≤ 57 := by
  simp [readResultPayload]

theorem length_schedStatusPayload (i : ScheduleId) (x : Schedule) :
    (schedStatusPayload s i x).length ≤ 57 := by
  simp [schedStatusPayload, length_occupancy]

/-- At most three notices are reported. -/
theorem length_readNoticesPayload (w : PortWatch) (start : Nat) : (readNoticesPayload w start).length ≤ 57 := by
  have few : ((w.notices.drop start).take Config.reportedNotices).length ≤ 3 := List.length_take_le ..
  unfold readNoticesPayload
  simp only [List.length_append, length_flatMap_of_const length_noticeBytes, List.length_map,
    w.slots.size, List.length_cons, List.length_nil]
  omega

theorem length_groupStatusPayload (g : GroupId) : (groupStatusPayload p s g).length ≤ 57 := by
  simp [groupStatusPayload, length_leaseBytes]

theorem length_readChannelPayload (c : ChannelId) : (readChannelPayload s c).length ≤ 57 := by
  simp [readChannelPayload]

/-- A revision for each channel at most. -/
theorem length_commitPayload (t : State) (scope : CommitScope) : (commitPayload s t scope).length ≤ 57 := by
  have few : ((everyIndex 12).filter (s.revisionAdvances scope)).length ≤ 12 :=
    Nat.le_trans (List.length_filter_le ..) (Nat.le_of_eq (everyIndex_length 12))
  unfold commitPayload
  simp only [List.length_append, length_be16, List.length_cons, List.length_nil,
    length_flatMap_of_const (f := fun c => be16 ((s.channel c).revision + 1)) (n := 2) fun _ => rfl]
  omega

end Reports

/-! ## Lengths of the answers -/

/-- A payload that fits a response slot (R182). -/
def Reply.Fits (r : Reply) : Prop := r.payload.length ≤ 57

section Answers

variable {s : State} {p : PortId}

theorem fits_refuse (s : State) (status : Status) : (refuse s status).Fits := Nat.zero_le _

theorem Reply.Fits.attachedOnly {r : Reply} (fits : r.Fits) : (s.attachedOnly p r).Fits := by
  unfold State.attachedOnly
  split
  · exact fits
  · exact fits_refuse s _

theorem Reply.Fits.ownSchedule {b : Byte} {k : ScheduleId → Schedule → Reply}
    (fits : ∀ i x, (k i x).Fits) : (s.ownSchedule p b k).Fits := by
  refine Reply.Fits.attachedOnly ?_
  split
  next => exact fits_refuse s _
  next i _ =>
    split
    next => exact fits_refuse s _
    next x _ =>
      split
      next => exact fits i x
      next => exact fits_refuse s _

/-- A payload whose length is a closed number. -/
theorem Reply.Fits.of_length {r : Reply} {n : Nat} (length : r.payload.length = n) (small : n ≤ 57) :
    r.Fits :=
  Nat.le_trans (Nat.le_of_eq length) small

theorem fits_helloReply (client : Word) : (helloReply p client s).Fits := by
  unfold helloReply
  split
  next => exact fits_refuse s _
  next => exact .of_length (n := 11) rfl (by decide)
  next => exact .of_length (n := 11) rfl (by decide)
  next => exact fits_refuse s _

theorem fits_bindReply (attention : Byte) (silenceMs : Half) : (bindReply p attention silenceMs s).Fits := by
  unfold bindReply
  split
  next =>
    split
    next => exact .of_length (n := 9) rfl (by decide)
    next => exact fits_refuse s _
  all_goals exact fits_refuse s _

theorem fits_convertPayload (u : State) (c : ChannelId) (gate : GateSource) :
    (convertPayload s u p c gate).length ≤ 57 := by
  unfold convertPayload
  split <;> simp

theorem fits_convertReply (tag : Half) (channel gate priority : Byte) :
    (convertReply p tag channel gate priority s).Fits := by
  refine Reply.Fits.attachedOnly ?_
  split
  next =>
    split
    next => exact fits_refuse s _
    next => exact fits_convertPayload _ _ _
  next => exact fits_refuse s _

theorem fits_cancelReply (target : Half) : (cancelReply p target s).Fits := by
  refine Reply.Fits.attachedOnly ?_
  split
  next => exact fits_refuse s _
  next =>
    dsimp only
    split
    next => exact fits_refuse s _
    next => exact .of_length (n := 2) rfl (by decide)

theorem fits_fetchReply : (fetchReply p s).Fits := by
  refine Reply.Fits.attachedOnly ?_
  split
  next => exact .of_length (n := 1) rfl (by decide)
  next r rest _ => exact .of_length (n := 41) (by simp [length_completionBytes]) (by decide)

theorem fits_schedAddReply (channel gate priority : Byte) (periodMs : Word) :
    (schedAddReply p channel gate priority periodMs s).Fits := by
  refine Reply.Fits.attachedOnly ?_
  split
  next =>
    split
    next => exact fits_refuse s _
    next =>
      split
      next => exact fits_refuse s _
      next => exact .of_length (n := 5) rfl (by decide)
  next => exact fits_refuse s _

theorem fits_schedDeleteReply (b : Byte) : (schedDeleteReply p b s).Fits :=
  .ownSchedule fun _ _ => .of_length (n := 7) rfl (by decide)

theorem fits_schedPauseReply (b : Byte) : (schedPauseReply p b s).Fits := by
  refine .ownSchedule fun _ _ => ?_
  split <;> exact Nat.zero_le _

theorem fits_schedResumeReply (b : Byte) : (schedResumeReply p b s).Fits := by
  refine .ownSchedule fun _ _ => ?_
  split
  next => exact .of_length (n := 4) rfl (by decide)
  next => exact fits_refuse s _

theorem fits_schedStatusReply (b : Byte) : (schedStatusReply p b s).Fits := by
  refine Reply.Fits.attachedOnly ?_
  split
  next => exact fits_refuse s _
  next =>
    split
    next => exact .of_length (length_occupancy s) (by decide)
    next i x _ => exact length_schedStatusPayload s _ _

theorem fits_watchSetReply (slot channel : Byte) (low high hyst : Word) (notify priority : Byte) :
    (watchSetReply p slot channel low high hyst notify priority s).Fits := by
  refine Reply.Fits.attachedOnly ?_
  split
  next =>
    split
    next => exact .of_length (n := 2) rfl (by decide)
    next => exact fits_refuse s _
  next => exact fits_refuse s _

theorem fits_watchClearReply (slot : Byte) : (watchClearReply p slot s).Fits := by
  refine Reply.Fits.attachedOnly ?_
  split
  next => exact fits_refuse s _
  next =>
    dsimp only
    split
    next => exact fits_refuse s _
    next => exact .of_length (n := 1) rfl (by decide)

theorem fits_readNoticesReply (start : Byte) : (readNoticesReply p start s).Fits := by
  refine Reply.Fits.attachedOnly ?_
  split
  next => exact fits_refuse s _
  next => exact length_readNoticesPayload _ _

theorem fits_ackNoticeReply (source : Byte) (generation : Half) :
    (ackNoticeReply p source generation s).Fits := by
  refine Reply.Fits.attachedOnly ?_
  split
  next => exact fits_refuse s _
  next =>
    dsimp only
    split
    next => exact fits_refuse s _
    next =>
      split
      next => exact .of_length (n := 1) rfl (by decide)
      next => exact .of_length (n := 3) rfl (by decide)

theorem fits_leaseReply (tag : Half) (group kind : Byte) (termMs : Word) :
    (leaseReply p tag group kind termMs s).Fits := by
  refine Reply.Fits.attachedOnly ?_
  split
  next =>
    split
    next => exact fits_refuse s _
    next =>
      split
      next => exact fits_refuse s _
      next =>
        split
        next => exact fits_refuse s _
        next =>
          split
          next => exact .of_length (n := 5) rfl (by decide)
          next =>
            split
            next => exact fits_refuse s _
            next => exact .of_length (n := 2) rfl (by decide)
  next => exact fits_refuse s _

theorem fits_withdrawReply (target : Half) : (withdrawReply p target s).Fits := by
  refine Reply.Fits.attachedOnly ?_
  split
  next => exact fits_refuse s _
  next =>
    split
    next => exact fits_refuse s _
    next => exact .of_length (n := 2) rfl (by decide)

theorem fits_renewReply (group kind : Byte) (termMs : Word) : (renewReply p group kind termMs s).Fits := by
  refine Reply.Fits.attachedOnly ?_
  split
  next =>
    split
    next => exact fits_refuse s _
    next =>
      split
      next => exact fits_refuse s _
      next => exact .of_length (n := 4) rfl (by decide)
  next => exact fits_refuse s _

theorem fits_releaseReply (group : Byte) : (releaseReply p group s).Fits := by
  refine Reply.Fits.attachedOnly ?_
  split
  next => exact fits_refuse s _
  next =>
    split
    next => exact fits_refuse s _
    next => exact .of_length (n := 3) rfl (by decide)

theorem fits_groupStatusReply (group : Byte) : (groupStatusReply p group s).Fits := by
  refine Reply.Fits.attachedOnly ?_
  split
  next => exact fits_refuse s _
  next => exact length_groupStatusPayload _ _ _

theorem fits_readChannelReply (channel : Byte) : (readChannelReply p channel s).Fits := by
  refine Reply.Fits.attachedOnly ?_
  split
  next => exact fits_refuse s _
  next => exact length_readChannelPayload _ _

theorem fits_readResultReply (channel : Byte) : (readResultReply p channel s).Fits := by
  refine Reply.Fits.attachedOnly ?_
  split
  next => exact length_readResultPayload _ _
  next => exact fits_refuse s _

theorem fits_stageChannelReply (channel mask enabled reference : Byte) (gateLength settle : Half)
    (openLimit shortLimit : Tri) :
    (stageChannelReply p channel mask enabled reference gateLength settle openLimit shortLimit s).Fits := by
  refine Reply.Fits.attachedOnly ?_
  split
  next =>
    split
    next => exact fits_refuse s _
    next => exact .of_length (n := 14) rfl (by decide)
  next => exact fits_refuse s _

theorem fits_stageReferenceReply (reference mask enabled : Byte) (settle cacheAgeMs holdOffMs : Half) :
    (stageReferenceReply p reference mask enabled settle cacheAgeMs holdOffMs s).Fits := by
  refine Reply.Fits.attachedOnly ?_
  split
  next =>
    split
    next => exact fits_refuse s _
    next => exact .of_length (n := 9) rfl (by decide)
  next => exact fits_refuse s _

theorem fits_stageHubReply (mask : Byte) (ageStepMs extWaitMs : Half) :
    (stageHubReply p mask ageStepMs extWaitMs s).Fits := by
  refine Reply.Fits.attachedOnly ?_
  split
  next =>
    split
    next => exact fits_refuse s _
    next => exact .of_length (n := 5) rfl (by decide)
  next => exact fits_refuse s _

/-- UNSTAGE answers without a payload. -/
theorem fits_unstageReply (selector : Byte) : (unstageReply p selector s).Fits := by
  refine Reply.Fits.attachedOnly ?_
  split
  next => exact fits_refuse s _
  next =>
    split
    next => exact fits_refuse s _
    next => split <;> exact Nat.zero_le _
  next =>
    split
    next => exact fits_refuse s _
    next => split <;> exact Nat.zero_le _

theorem fits_commitReply (selector : Byte) : (commitReply p selector s).Fits := by
  refine Reply.Fits.attachedOnly ?_
  split
  next => exact fits_refuse s _
  next scope _ =>
    split
    next => exact fits_refuse s _
    next =>
      split
      next => exact fits_refuse s _
      next =>
        split
        next => exact Nat.le_trans Option.length_toList_le (by decide)
        next => exact length_commitPayload s _ scope

theorem fits_detachReply : (detachReply p s).Fits :=
  .attachedOnly (Reply.Fits.of_length (n := 8) rfl (by decide))

theorem fits_answer (s : State) (p : PortId) (tag : Half) (c : Command) : (answer p tag c s).Fits := by
  cases c with
  | nop => exact Nat.zero_le _
  | hello client => exact fits_helloReply client
  | bind attention silenceMs => exact fits_bindReply attention silenceMs
  | detach => exact fits_detachReply
  | portStatus => exact length_portStatusPayload s p
  | convert channel gate priority => exact fits_convertReply tag channel gate priority
  | cancel target => exact fits_cancelReply target
  | queueStatus => exact Reply.Fits.attachedOnly (length_queueStatusPayload s p)
  | readResult channel => exact fits_readResultReply channel
  | fetch => exact fits_fetchReply
  | schedAdd channel gate priority periodMs => exact fits_schedAddReply channel gate priority periodMs
  | schedDelete schedule => exact fits_schedDeleteReply schedule
  | schedPause schedule => exact fits_schedPauseReply schedule
  | schedResume schedule => exact fits_schedResumeReply schedule
  | schedStatus schedule => exact fits_schedStatusReply schedule
  | watchSet slot channel low high hyst notify priority =>
    exact fits_watchSetReply slot channel low high hyst notify priority
  | watchClear slot => exact fits_watchClearReply slot
  | readNotices start => exact fits_readNoticesReply start
  | ackNotice source generation => exact fits_ackNoticeReply source generation
  | lease group kind termMs => exact fits_leaseReply tag group kind termMs
  | withdraw target => exact fits_withdrawReply target
  | renew group kind termMs => exact fits_renewReply group kind termMs
  | release group => exact fits_releaseReply group
  | groupStatus group => exact fits_groupStatusReply group
  | readChannel channel => exact fits_readChannelReply channel
  | readHub => exact Reply.Fits.attachedOnly (Reply.Fits.of_length (n := 21) rfl (by decide))
  | stageChannel channel mask enabled reference gateLength settle openLimit shortLimit =>
    exact fits_stageChannelReply channel mask enabled reference gateLength settle openLimit shortLimit
  | stageReference reference mask enabled settle cacheAgeMs holdOffMs =>
    exact fits_stageReferenceReply reference mask enabled settle cacheAgeMs holdOffMs
  | stageHub mask ageStepMs extWaitMs => exact fits_stageHubReply mask ageStepMs extWaitMs
  | unstage selector => exact fits_unstageReply selector
  | commit selector => exact fits_commitReply selector

end Answers

/-- Settles O16, command by command. -/
theorem everyResponseFits : Obligations.EveryResponseFits :=
  fun s p tag c => fits_answer s p tag c

end Sys2Proof.Machine
end

section
/-!
PROOF. The operands' ranges read as statements about their numbers (R183), and the commands HELLO, BIND, DETACH, FETCH
and UNSTAGE (R139, R147, R149, R153, R185).
-/
namespace Sys2Proof.Machine

/-! ## Operands (R177, R183) -/

section Operands

theorem numbered_of_eq {n : Nat} {b : Byte} {i : Fin n} (same : b.toNat = i.val) :
    numbered n b = some i := by
  have below : b.toNat < n := same ▸ i.isLt
  rw [numbered, dif_pos below]
  exact congrArg some (Fin.ext same)

theorem numbered_of_le {n : Nat} {b : Byte} (beyond : n ≤ b.toNat) : numbered n b = none :=
  dif_neg (Nat.not_lt.mpr beyond)

theorem silenceOf_of_mem {limit : Half} (within : limit = 0 ∨ (50 ≤ limit.toNat ∧ limit.toNat ≤ 60000)) :
    silenceOf limit = some limit := by
  unfold silenceOf
  by_cases zero : limit = 0
  · rw [if_pos zero, zero]
  · rw [if_neg zero, ranged_of_mem (within.resolve_left zero)]

theorem silenceOf_of_not_mem
    (beyond : ¬(limit = 0 ∨ (50 ≤ limit.toNat ∧ limit.toNat ≤ 60000))) : silenceOf limit = none := by
  obtain ⟨nonzero, beyond⟩ := not_or.mp beyond
  rw [silenceOf, if_neg nonzero, ranged_of_not_mem beyond]

theorem unstageSelector_of_channel {b : Byte} {c : ChannelId} (same : b.toNat = c.val) :
    unstageSelector b = some (some c) := by
  have notHub : b ≠ 0xFF := by
    rintro rfl
    have top : (0xFF : Byte).toNat = 255 := rfl
    omega
  rw [unstageSelector, if_neg notHub, numbered_of_eq same]
  rfl

theorem unstageSelector_of_beyond {b : Byte} (notHub : b ≠ 0xFF) (beyond : 12 ≤ b.toNat) :
    unstageSelector b = none := by
  rw [unstageSelector, if_neg notHub, numbered_of_le beyond]
  rfl

end Operands

/-! ## HELLO (R147) -/

section Hello

variable {u : State} {p : PortId}

theorem helloReply_of_unattached (client : Word)
    (waiting : (u.port p).state = .linked ∨ ∃ old window, (u.port p).state = .binding old window) :
    helloReply p client u =
      { state := u.startBinding p client, status := .done, payload := helloPayload u p } := by
  unfold helloReply
  rcases waiting with linked | ⟨old, window, binding⟩
  · rw [linked]
  · rw [binding]

theorem helloReply_of_attached (client : Word) (attached : u.isAttached p = true) :
    helloReply p client u = refuse u .alreadyAttached := by
  obtain ⟨a, state⟩ := State.isAttached_iff.mp attached
  unfold helloReply
  rw [state]

end Hello

section Taken

variable {s : State} {p : PortId} {t : Transaction}

theorem State.state_taken : ((s.taken p t).port p).state = restartedSilence s.hubTime (s.port p).state := by
  rw [State.port_taken]
  rfl

theorem State.cause_taken : ((s.taken p t).port p).cause = (s.port p).cause := by
  rw [State.port_taken]
  rfl

/-- A port that is not ATTACHED keeps its port state. -/
theorem State.state_taken_of_unattached (unattached : s.isAttached p = false) :
    ((s.taken p t).port p).state = (s.port p).state := by
  rw [State.state_taken]
  cases state : (s.port p).state with
  | attached a => rw [State.isAttached_eq p state] at unattached; cases unattached
  | _ => rfl

end Taken

/-- Settles O19. -/
theorem helloStartsBinding : Obligations.HelloStartsBinding := by
  intro s p t tag client taken u
  refine ⟨fun waiting => ?_, fun attached => ?_⟩
  · have unattached : s.isAttached p = false := by
      rcases waiting with linked | ⟨old, window, binding⟩
      · exact State.isAttached_eq p linked
      · exact State.isAttached_eq p binding
    have reply := helloReply_of_unattached (u := s.taken p t) client
      ((State.state_taken_of_unattached unattached).symm ▸ waiting)
    refine (exec_of_executes (i := .hello p tag client) rfl taken reply).trans ?_
    rw [← State.cause_taken (t := t)]
    rfl
  · exact exec_of_executes rfl taken
      (helloReply_of_attached client ((State.isAttached_taken p).trans attached))

/-! ## BIND (R149) -/

section Bind

variable {u : State} {p : PortId} {attention : Byte} {limit : Half}

theorem bindReply_of_binding {client : Word} {window : Time} {on : Bool}
    (binding : (u.port p).state = .binding client window) (attends : yesNo attention = some on)
    (silence : silenceOf limit = some limit) :
    bindReply p attention limit u =
      { state := u.attach p client on limit, status := .done
        payload := [finCode p] ++ be32 client ++ [flagByte on] ++ be16 limit ++
          [byteOf ((u.attach p client on limit).freeCredits p)] } := by
  unfold bindReply
  rw [binding]
  dsimp only
  rw [attends, silence]

theorem bindReply_of_bad {client : Word} {window : Time}
    (binding : (u.port p).state = .binding client window)
    (bad : yesNo attention = none ∨ silenceOf limit = none) :
    bindReply p attention limit u = refuse u .badParam := by
  unfold bindReply
  rw [binding]
  dsimp only
  rcases bad with bad | bad
  · rw [bad]
  · rw [bad]
    cases yesNo attention <;> rfl

theorem bindReply_of_not_binding (other : ∀ client window, (u.port p).state ≠ .binding client window) :
    bindReply p attention limit u = refuse u .wrongState := by
  unfold bindReply
  cases state : (u.port p).state with
  | binding client window => exact absurd state (other client window)
  | _ => rfl

end Bind

/-- R158. -/
theorem State.atnAsserted_iff {s : State} {n : PortId} : s.atnAsserted n = true ↔
    ∃ a, (s.port n).state = .attached a ∧ a.attention = true ∧
      (s.cq n ≠ [] ∨ (s.portWatch n).notices ≠ []) := by
  unfold State.atnAsserted State.cqNonempty State.noticesPending
  cases state : (s.port n).state <;> simp [PortState.attention]

/-- Settles O20. -/
theorem bindAttachesPort : Obligations.BindAttachesPort := by
  refine ⟨fun s n => State.atnAsserted_iff, fun s p t tag attention limit taken => ?_⟩
  have kept {client : Word} {window : Time} (binding : (s.port p).state = .binding client window) :
      ((s.taken p t).port p).state = .binding client window :=
    (State.state_taken_of_unattached (State.isAttached_eq p binding)).trans binding
  refine ⟨fun client window on binding attends within => ?_, fun client window binding bad => ?_,
    fun other => ?_, fun nothing => nothing.freeCredits⟩
  · exact exec_of_executes (i := .bind p tag attention limit) rfl taken
      (bindReply_of_binding (kept binding) attends (silenceOf_of_mem within))
  · exact exec_of_executes (i := .bind p tag attention limit) rfl taken
      (bindReply_of_bad (kept binding) (bad.imp_right silenceOf_of_not_mem))
  · refine exec_of_executes (i := .bind p tag attention limit) rfl taken (bindReply_of_not_binding ?_)
    intro client window binding
    rw [State.state_taken] at binding
    cases state : (s.port p).state with
    | binding old window => exact other old window state
    | attached a =>
      rw [state, restartedSilence] at binding
      split at binding <;> cases binding
    | offline => rw [state] at binding; cases binding
    | linked => rw [state] at binding; cases binding

/-! ## DETACH, FETCH and UNSTAGE -/

/-- Settles O21. -/
theorem detachTearsDownAndReports : Obligations.DetachTearsDownAndReports := by
  intro s p t tag served
  have reply : answer p tag .detach (s.taken p t) = (s.taken p t).attachedOnly p
      { state := (s.taken p t).tearDown p fun c => c.detached .detach, status := .done
        payload := ((s.taken p t).teardownReport p).bytes } := by
    rw [answer, detachReply]
  have run := exec_of_serves (i := .detach p tag) rfl served reply
  dsimp only at run
  exact run

/-- Settles O32. -/
theorem fetchRemovesHead : Obligations.FetchRemovesHead := by
  intro s p t tag served u
  have run := exec_of_serves (i := .fetch p tag) rfl served rfl
  refine ⟨fun empty => ?_, fun r rest records => ⟨?_, ?_⟩⟩
  · have empty : (s.taken p t).cq p = [] := empty
    rwa [empty] at run
  · have records : (s.taken p t).cq p = r :: rest := records
    rwa [records] at run
  · have left : (u.setCq p rest).holdings p =
        ((u.setCq p rest).cq p).length + waitersOf p s.entries + s.leaseRequestsOf p := rfl
    rw [left, State.cq_setCq, State.holdings, records, List.length_cons]
    omega

section Unstage

variable {u : State} {p : PortId}

theorem State.holds_eq_false {g : GroupId} (other : u.holder g ≠ some p) : u.holds p g = false :=
  decide_eq_false other

theorem State.holdsAll_eq_false (other : ∃ g, u.holder g ≠ some p) : u.holdsAll p = false := by
  obtain ⟨g, other⟩ := other
  exact Bool.eq_false_iff.mpr fun all => other ((u.holdsAll_iff p).mp all g)

end Unstage

/-- Settles O42. -/
theorem unstageDropsStagedEdits : Obligations.UnstageDropsStagedEdits := by
  intro s p t tag b served u run refused
  have run := exec_of_serves (i := .unstage p tag b) rfl served rfl
  refine ⟨fun notHub beyond => ?_, fun c same => ?_, fun hub => ?_⟩
  · rwa [unstageSelector_of_beyond notHub beyond] at run
  · rw [unstageSelector_of_channel same] at run
    dsimp only at run
    refine ⟨fun other => ?_, fun held free => ?_, fun held staged => ?_⟩
    · have other : (s.taken p t).holds p (groupOf c) = false := State.holds_eq_false other
      rwa [other] at run
    · have held : (s.taken p t).holds p (groupOf c) = true := State.holds_iff.mpr held
      have free : (s.taken p t).leases.staging.read c = none := free
      rwa [held, free] at run
    · have held : (s.taken p t).holds p (groupOf c) = true := State.holds_iff.mpr held
      have staged : ((s.taken p t).leases.staging.read c).isNone = false := by
        rw [Option.isNone_eq_false_iff, Option.isSome_iff_ne_none]
        exact staged
      rwa [held, staged] at run
  · have selector : unstageSelector b = some none := if_pos hub
    rw [selector] at run
    dsimp only at run
    refine ⟨fun other => ?_, fun all empty => ?_, fun all staged => ?_⟩
    · have other : (s.taken p t).holdsAll p = false := State.holdsAll_eq_false other
      rwa [other] at run
    · have all : (s.taken p t).holdsAll p = true := (State.holdsAll_iff _ p).mpr all
      have empty : (s.taken p t).leases.hubStaging.nonempty = false := empty
      rwa [all, empty] at run
    · have all : (s.taken p t).holdsAll p = true := (State.holdsAll_iff _ p).mpr all
      have staged : (s.taken p t).leases.hubStaging.nonempty = true := staged
      rwa [all, staged] at run

end Sys2Proof.Machine
end

section
/-!
PROOF. Requests admitted and cancelled: CONVERT (R50 to R54), the entry a request joins or creates (R52, R53), CANCEL
(R62, R63).
-/
namespace Sys2Proof.Machine

/-! ## The entry with a key (R52, R53) -/

section Keys

variable {s : State} {c : ChannelId} {g : GateSource} {e : Entry}

theorem Entry.pending_with_key_iff :
    (e.isPending && e.hasKey c g) = true ↔ e.state = .pending ∧ e.channel = c ∧ e.gate = g := by
  simp [Entry.hasKey]

theorem joinEntry_eq (w : Waiter) (l : List Entry) : joinEntry c g w l = l.map fun e =>
    if e.state = .pending ∧ e.channel = c ∧ e.gate = g then { e with waiters := e.waiters ++ [w] } else e :=
  List.map_congr_left fun _ _ => ite_congr (propext Entry.pending_with_key_iff) (fun _ => rfl) fun _ => rfl

theorem State.enqueue_of_some (found : s.pendingWithKey c g = some e) (w : Waiter) :
    s.enqueue c g w = s.setEntries (joinEntry c g w s.entries) := by
  rw [State.enqueue, found]

theorem State.enqueue_of_none (none : s.pendingWithKey c g = none) (w : Waiter) :
    s.enqueue c g w =
      s.setQueue { entries := s.entries ++ [s.newEntry c g w], arrivals := s.queue.arrivals + 1 } := by
  rw [State.enqueue, none]

theorem Waiter.length_marks (p : PortId) (w : Waiter) :
    (w.marks p).length = if w.port = p then 1 else 0 := by
  unfold Waiter.marks
  split <;> rfl

/-- R51: an admitted request holds one credit of its port. -/
theorem State.holdings_enqueue (queue : s.QueueSound) (w : Waiter) (p : PortId) :
    (s.enqueue c g w).holdings p = s.holdings p + if w.port = p then 1 else 0 := by
  have joined := (State.items_enqueue queue c g w p).length_eq
  rw [List.length_append, State.length_items, State.length_items, Waiter.length_marks] at joined
  omega

end Keys

/-- Settles O23. -/
theorem admissionJoinsOrCreates : Obligations.AdmissionJoinsOrCreates := by
  intro s c g w
  refine ⟨fun e found => ?_, fun none => ?_, fun queue p => State.holdings_enqueue queue w p⟩
  · have key : (e.isPending && e.hasKey c g) = true := by simpa using List.find?_some found
    obtain ⟨pending, channel, gate⟩ := Entry.pending_with_key_iff.mp key
    refine ⟨List.mem_of_find?_eq_some found, pending, channel, gate, ?_⟩
    rw [State.enqueue_of_some found, joinEntry_eq]
    rfl
  · refine ⟨fun e he key => ?_, State.enqueue_of_none none w⟩
    exact List.find?_eq_none.mp none e he (Entry.pending_with_key_iff.mpr key)

/-! ## CONVERT (R50 to R54) -/

section Convert

variable {u : State} {p : PortId} {tag : Half} {channel gate priority : Byte}

theorem queueFullFor_eq (c : ChannelId) (g : GateSource) :
    u.queueFullFor c g = decide (u.pendingWithKey c g = none ∧ 24 ≤ u.entries.length) := by
  rw [State.queueFullFor, Bool.decide_and]
  congr 1
  cases u.pendingWithKey c g <;> rfl

/-- What CONVERT does with operands in their ranges (R50, R52 to R54). -/
def admission (p : PortId) (tag : Half) (c : ChannelId) (g : GateSource) (n : Priority) (u : State) : Reply :=
  let admitted := u.enqueue c g { port := p, origin := .direct tag, priority := n }
  { state := admitted.runArbiter, status := .accepted, payload := convertPayload u admitted p c g }

variable {s : State} {t : Transaction}

theorem exec_convert_of_bad (served : s.Serves p t tag (.convert channel gate priority))
    (bad : numbered 12 channel = none ∨ gateOf gate = none ∨ numbered 4 priority = none) :
    exec (.convert p tag channel gate priority) s =
      .next ((s.taken p t).answered p tag (.convert channel gate priority) .badParam []) := by
  have run := exec_of_serves (i := .convert p tag channel gate priority) rfl served rfl
  rcases bad with bad | bad | bad
  · rwa [bad] at run
  · rw [bad] at run
    cases channel : numbered 12 channel <;> rwa [channel] at run
  · rw [bad] at run
    cases channel : numbered 12 channel <;> cases gate : gateOf gate <;> rwa [channel, gate] at run

variable {c : ChannelId} {g : GateSource} {n : Priority}

theorem exec_convert_of_refused (served : s.Serves p t tag (.convert channel gate priority))
    (ch : numbered 12 channel = some c) (gt : gateOf gate = some g) (pr : numbered 4 priority = some n)
    {status : Status} (refused : (s.taken p t).convertRefusal p tag c g = some status) :
    exec (.convert p tag channel gate priority) s =
      .next ((s.taken p t).answered p tag (.convert channel gate priority) status []) := by
  have run := exec_of_serves (i := .convert p tag channel gate priority) rfl served rfl
  rw [ch, gt, pr] at run
  dsimp only at run
  rwa [refused] at run

theorem exec_convert_of_admitted (served : s.Serves p t tag (.convert channel gate priority))
    (ch : numbered 12 channel = some c) (gt : gateOf gate = some g) (pr : numbered 4 priority = some n)
    (admits : (s.taken p t).convertRefusal p tag c g = none) :
    exec (.convert p tag channel gate priority) s =
      .next ((admission p tag c g n (s.taken p t)).state.answered p tag (.convert channel gate priority)
        .accepted (admission p tag c g n (s.taken p t)).payload) := by
  have run := exec_of_serves (i := .convert p tag channel gate priority) rfl served rfl
  rw [ch, gt, pr] at run
  dsimp only at run
  rwa [admits] at run

end Convert

/-- Settles O22: the checks of R50 in their order. -/
theorem convertCheckedAndAdmitted : Obligations.ConvertCheckedAndAdmitted := by
  intro s p t tag channel gate priority c served u refused
  refine ⟨exec_convert_of_bad served, fun ch g n hch hg hn => ?_⟩
  have refuses {status : Status} (why : (s.taken p t).convertRefusal p tag ch g = some status) :
      refused status := exec_convert_of_refused served hch hg hn why
  have checks : (s.taken p t).convertRefusal p tag ch g =
      if !s.usable ch then some .unusable
      else if s.tagInUse p tag then some .tagInUse
      else if s.freeCredits p = 0 then some .noCredit
      else if s.directWaiterInPending p ch g then some .duplicate
      else if s.queueFullFor ch g then some .queueFull
      else none := rfl
  refine ⟨fun unusable => refuses ?_, fun usable inUse => refuses ?_,
    fun usable free none => refuses ?_, fun usable free credit waits => refuses ?_,
    fun usable free credit waits none full => refuses ?_, fun usable free credit waits room => ?_⟩
  · simp [checks, unusable]
  · simp [checks, usable, inUse]
  · simp [checks, usable, free, none]
  · simp [checks, usable, free, credit, waits]
  · simp [checks, usable, free, credit, waits, queueFullFor_eq, none, full]
  · have notFull : s.queueFullFor ch g = false := by
      rw [queueFullFor_eq, decide_eq_false_iff_not]
      rintro ⟨none, full⟩
      rcases room with found | less
      · exact found none
      · omega
    have admits : (s.taken p t).convertRefusal p tag ch g = none := by
      simp [checks, usable, free, credit, waits, notFull]
    exact exec_convert_of_admitted served hch hg hn admits

/-! ## CANCEL (R62, R63) -/

section Cancel

variable {s : State} {gone : Waiter → Bool} {e : Entry}

theorem losesInFlight_eq_false (kept : ∀ f ∈ s.entries, f.state = .inFlight → (f.without gone).waiters ≠ []) :
    losesInFlight gone s.entries = false := by
  refine Bool.eq_false_iff.mpr fun loses => ?_
  obtain ⟨f, hf, lost⟩ := List.any_eq_true.mp loses
  obtain ⟨flying, empty⟩ := (Bool.and_eq_true _ _).mp lost
  exact kept f hf (Entry.isInFlight_iff.mp flying) (List.isEmpty_iff.mp empty)

theorem losesInFlight_eq_true (lost : ∃ f ∈ s.entries, f.state = .inFlight ∧ (f.without gone).waiters = []) :
    losesInFlight gone s.entries = true := by
  obtain ⟨f, hf, flying, empty⟩ := lost
  refine List.any_eq_true.mpr ⟨f, hf, (Bool.and_eq_true _ _).mpr ⟨?_, ?_⟩⟩
  · exact Entry.isInFlight_iff.mpr flying
  · exact List.isEmpty_iff.mpr empty

/-- R63. -/
theorem removalIndication_eq (gone : Waiter → Bool) (e : Entry) : removalIndication gone e =
    if (e.without gone).waiters ≠ [] then 0 else if e.state = .pending then 1 else 2 := by
  unfold removalIndication
  by_cases empty : (e.without gone).waiters = []
  · rw [if_pos (List.isEmpty_iff.mpr empty), if_neg (not_not_intro empty)]
    cases e.state <;> rfl
  · rw [if_neg (fun h => empty (List.isEmpty_iff.mp h)), if_pos empty]

end Cancel

/-- Settles O28. -/
theorem cancelRemovesWaiter : Obligations.CancelRemovesWaiter := by
  intro s p t tag target served u gone left removed stopped found
  have run := exec_of_serves (i := .cancel p tag target) rfl served rfl
  refine ⟨fun zero => ?_, fun nonzero missing => ?_, fun e nonzero stands => ?_⟩
  · rwa [if_pos zero] at run
  · have missing :
        (s.taken p t).entries.find? (fun e => e.waiters.any (Waiter.isDirectOf p target)) = none := missing
    rw [if_neg nonzero] at run
    dsimp only at run
    rwa [missing] at run
  · have stands :
        (s.taken p t).entries.find? (fun e => e.waiters.any (Waiter.isDirectOf p target)) = some e := stands
    rw [if_neg nonzero] at run
    dsimp only at run
    rw [stands] at run
    dsimp only at run
    rw [removalIndication_eq, State.removeWaiters] at run
    refine ⟨fun kept => ?_, fun lost => ?_⟩
    · have keeps : losesInFlight (Waiter.isDirectOf p target) (s.taken p t).entries = false :=
        losesInFlight_eq_false kept
      rw [keeps] at run
      exact run
    · have loses : losesInFlight (Waiter.isDirectOf p target) (s.taken p t).entries = true :=
        losesInFlight_eq_true lost
      rw [loses] at run
      exact run

end Sys2Proof.Machine
end

section
/-!
PROOF. The schedule commands (R71 to R74) and the due event (R75, R76).
-/
namespace Sys2Proof.Machine

/-! ## The commands on an own schedule (R72 to R74) -/

section OwnSchedule

variable {s : State} {p : PortId} {t : Transaction} {tag : Half} {c : Command} {row : Instr} {b : Byte}
  {k : ScheduleId → Schedule → Reply}

theorem exec_own_of_unknown (request : row.request = some (p, tag, c)) (served : s.Serves p t tag c)
    (reply : answer p tag c (s.taken p t) = (s.taken p t).ownSchedule p b k)
    (unknown : numbered 8 b = none) :
    exec row s = .next ((s.taken p t).answered p tag c .badParam []) := by
  have run := exec_of_serves request served reply
  rwa [unknown] at run

theorem exec_own_of_free (request : row.request = some (p, tag, c)) (served : s.Serves p t tag c)
    (reply : answer p tag c (s.taken p t) = (s.taken p t).ownSchedule p b k) {i : ScheduleId}
    (known : numbered 8 b = some i) (free : s.schedule i = none) :
    exec row s = .next ((s.taken p t).answered p tag c .notFound []) := by
  have run := exec_of_serves request served reply
  have free : (s.taken p t).schedule i = none := free
  rw [known] at run
  dsimp only at run
  rwa [free] at run

theorem exec_own_of_other (request : row.request = some (p, tag, c)) (served : s.Serves p t tag c)
    (reply : answer p tag c (s.taken p t) = (s.taken p t).ownSchedule p b k) {i : ScheduleId} {x : Schedule}
    (known : numbered 8 b = some i) (found : s.schedule i = some x) (other : x.owner ≠ p) :
    exec row s = .next ((s.taken p t).answered p tag c .notHolder []) := by
  have run := exec_of_serves request served reply
  have found : (s.taken p t).schedule i = some x := found
  rw [known] at run
  dsimp only at run
  rw [found] at run
  dsimp only at run
  rwa [if_neg other] at run

theorem exec_own (request : row.request = some (p, tag, c)) (served : s.Serves p t tag c)
    (reply : answer p tag c (s.taken p t) = (s.taken p t).ownSchedule p b k) {i : ScheduleId} {x : Schedule}
    (known : numbered 8 b = some i) (found : s.schedule i = some x) (own : x.owner = p) :
    exec row s = .next ((k i x).state.answered p tag c (k i x).status (k i x).payload) := by
  have run := exec_of_serves request served reply
  have found : (s.taken p t).schedule i = some x := found
  rw [known] at run
  dsimp only at run
  rw [found] at run
  dsimp only at run
  rwa [if_pos own] at run

end OwnSchedule

/-! ## What became of a schedule's waiter (R72) -/

section DeleteIndication

variable {s : State} {i : ScheduleId}

theorem without_isOfSchedule_eq_nil (e : Entry) : (e.without (Waiter.isOfSchedule i)).waiters = [] ↔
    ∀ w ∈ e.waiters, w.origin = .schedule i := by
  simp [Entry.without, Waiter.isOfSchedule, List.filter_eq_nil_iff]

theorem State.deleteIndication_of_none (none : ∀ e ∈ s.entries, e.waiters.any (Waiter.isOfSchedule i) = false) :
    s.deleteIndication i = 0 := by
  have missing : s.entryOfSchedule i = .none :=
    List.find?_eq_none.mpr fun e he => Bool.eq_false_iff.mp (none e he)
  rw [State.deleteIndication, missing]

/-- R72: CONVERSION_ABORTED only for an IN_FLIGHT entry that no other waiter keeps. -/
theorem State.deleteIndication_of_some {e : Entry}
    (found : s.entries.find? (fun e => e.waiters.any (Waiter.isOfSchedule i)) = some e) :
    s.deleteIndication i =
      if e.state = .inFlight ∧ ∀ w ∈ e.waiters, w.origin = .schedule i then 2 else 1 := by
  have stands : s.entryOfSchedule i = some e := found
  rw [State.deleteIndication, stands]
  dsimp only
  rw [removalIndication_eq]
  simp only [← without_isOfSchedule_eq_nil]
  by_cases empty : (e.without (Waiter.isOfSchedule i)).waiters = [] <;> cases e.state <;> simp [empty]

end DeleteIndication

/-- Settles O30. -/
theorem schedDeletePauseResume : Obligations.SchedDeletePauseResume := by
  intro s p t tag b u checks
  have checked {c : Command} {row : Instr} {k : ScheduleId → Schedule → Reply}
      (request : row.request = some (p, tag, c)) (served : s.Serves p t tag c)
      (reply : answer p tag c (s.taken p t) = (s.taken p t).ownSchedule p b k) : checks c (exec row s) :=
    ⟨fun unknown => exec_own_of_unknown request served reply unknown,
      fun _ known free => exec_own_of_free request served reply known free,
      fun _ _ known found other => exec_own_of_other request served reply known found other⟩
  refine ⟨fun served => ⟨checked rfl served rfl, fun i x known found own => ?delete⟩,
    fun served => ⟨checked rfl served rfl, fun i x known found own => ?pause⟩,
    fun served => ⟨checked rfl served rfl, fun i x known found own => ?resume⟩, ?indication⟩
  case delete => exact exec_own (row := .schedDelete p tag b) rfl served rfl known found own
  case pause =>
    have run := exec_own (row := .schedPause p tag b) rfl served rfl known found own
    refine ⟨fun due active => ?_, fun paused => ?_⟩
    · rwa [active] at run
    · rwa [paused] at run
  case resume =>
    have run := exec_own (row := .schedResume p tag b) rfl served rfl known found own
    refine ⟨fun paused => ?_, fun due active => ?_⟩
    · rwa [paused] at run
    · rwa [active] at run
  case indication =>
    intro i waits
    exact ⟨State.deleteIndication_of_none, fun e found =>
      ⟨fun last => (State.deleteIndication_of_some found).trans (if_pos last),
        fun notLast => (State.deleteIndication_of_some found).trans (if_neg notLast)⟩⟩

/-! ## SCHED_ADD (R71) -/

/-- A search in rising order finds the lowest number. -/
theorem find?_everyIndex_of_least {n : Nat} {hit : Fin n → Bool} {i : Fin n} (found : hit i = true)
    (least : ∀ j, j < i → hit j = false) : (everyIndex n).find? hit = some i := by
  have place : i.val < (everyIndex n).length := by rw [everyIndex_length]; exact i.isLt
  refine List.find?_eq_some_iff_getElem.mpr
    ⟨found, i.val, place, everyIndex_getElem n i.val place, fun j below => ?_⟩
  rw [everyIndex_getElem n j, least _ below]
  rfl

section FreePlace

variable {s : State}

theorem State.freePlace_of_full (full : ∀ i, s.schedule i ≠ none) : s.freePlace = none :=
  List.find?_eq_none.mpr fun i _ free => full i (Option.isNone_iff_eq_none.mp free)

/-- The free place with the lowest id. -/
theorem State.freePlace_of_least {i : ScheduleId} (free : s.schedule i = none)
    (least : ∀ j, j < i → s.schedule j ≠ none) : s.freePlace = some i :=
  find?_everyIndex_of_least (Option.isNone_iff_eq_none.mpr free) fun j below =>
    Option.isNone_eq_false_iff.mpr (Option.isSome_iff_ne_none.mpr (least j below))

end FreePlace

section SchedAdd

variable {s : State} {p : PortId} {t : Transaction} {tag : Half} {channel gate priority : Byte}
  {period : Word} (served : s.Serves p t tag (.schedAdd channel gate priority period))
include served

theorem exec_schedAdd_of_bad (bad : numbered 12 channel = none ∨ gateOf gate = none ∨
      numbered 4 priority = none ∨ ¬(10 ≤ period.toNat ∧ period.toNat ≤ 600000)) :
    exec (.schedAdd p tag channel gate priority period) s =
      .next ((s.taken p t).answered p tag (.schedAdd channel gate priority period) .badParam []) := by
  have run := exec_of_serves (i := .schedAdd p tag channel gate priority period) rfl served rfl
  rcases bad with bad | bad | bad | bad
  · rwa [bad] at run
  · rw [bad] at run
    cases channel : numbered 12 channel <;> rwa [channel] at run
  · rw [bad] at run
    cases channel : numbered 12 channel <;> cases gate : gateOf gate <;> rwa [channel, gate] at run
  · have term : termOf period = none := ranged_of_not_mem bad
    rw [term] at run
    cases channel : numbered 12 channel <;> cases gate : gateOf gate <;>
      cases priority : numbered 4 priority <;> rwa [channel, gate, priority] at run

/-- What SCHED_ADD does with operands in their ranges. -/
theorem exec_schedAdd {c : ChannelId} {g : GateSource} {n : Priority} (ch : numbered 12 channel = some c)
    (gt : gateOf gate = some g) (pr : numbered 4 priority = some n)
    (within : 10 ≤ period.toNat ∧ period.toNat ≤ 600000) :
    (s.usable c = false → exec (.schedAdd p tag channel gate priority period) s =
      .next ((s.taken p t).answered p tag (.schedAdd channel gate priority period) .unusable [])) ∧
    (s.usable c = true → s.freePlace = none → exec (.schedAdd p tag channel gate priority period) s =
      .next ((s.taken p t).answered p tag (.schedAdd channel gate priority period) .tableFull [])) ∧
    ∀ i, s.usable c = true → s.freePlace = some i →
      exec (.schedAdd p tag channel gate priority period) s =
        .next (((s.taken p t).setSchedule i (some
          { owner := p, channel := c, gate := g, priority := n, periodMs := period,
            state := .active (s.hubTime + msToUs period), missCount := 0, runCount := 0,
            lastMiss := .none })).answered p tag (.schedAdd channel gate priority period) .done
          ([finCode i] ++ be32 (s.hubTime + msToUs period))) := by
  have run := exec_of_serves (i := .schedAdd p tag channel gate priority period) rfl served rfl
  have term : termOf period = some period := ranged_of_mem within
  rw [ch, gt, pr, term] at run
  dsimp only at run
  refine ⟨fun unusable => ?_, fun usable full => ?_, fun i usable place => ?_⟩
  · have unusable : (s.taken p t).usable c = false := unusable
    rwa [unusable] at run
  · have usable : (s.taken p t).usable c = true := usable
    have full : (s.taken p t).freePlace = none := full
    rwa [usable, full] at run
  · have usable : (s.taken p t).usable c = true := usable
    have place : (s.taken p t).freePlace = some i := place
    rwa [usable, place] at run

end SchedAdd

/-- Settles O29. -/
theorem schedAddTakesLowestFreePlace : Obligations.SchedAddTakesLowestFreePlace := by
  intro s p t tag channel gate priority period c served u run inTerm
  refine ⟨exec_schedAdd_of_bad served, fun ch g n hch hg hn within => ?_⟩
  obtain ⟨unusable, full, added⟩ := exec_schedAdd served hch hg hn within
  exact ⟨unusable, fun usable none => full usable (State.freePlace_of_full none),
    fun i usable free least => added i usable (State.freePlace_of_least free least)⟩

/-! ## The due event (R75, R76) -/

section Due

variable {s : State} {i : ScheduleId} {x : Schedule} {due : Time}

theorem State.isSome_entryOfSchedule : (s.entryOfSchedule i).isSome =
    s.entries.any fun e => e.waiters.any (Waiter.isOfSchedule i) :=
  List.isSome_find?

theorem State.scheduleDue_of_miss (found : s.schedule i = some x) (active : x.state = .active due)
    (isDue : reached s.hubTime due = true) {cause : MissCause} (missed : s.missFor i x = some cause) :
    s.scheduleDue i = s.setSchedule i (some
      { x with
        state := .active (due + msToUs x.periodMs)
        missCount := saturatingSucc x.missCount, lastMiss := cause }) := by
  unfold State.scheduleDue
  rw [found]
  dsimp only
  rw [active]
  dsimp only
  rw [if_pos isDue, missed]

theorem State.scheduleDue_of_injection (found : s.schedule i = some x) (active : x.state = .active due)
    (isDue : reached s.hubTime due = true) (injects : s.missFor i x = none) :
    s.scheduleDue i = ((s.setSchedule i (some
      { x with state := .active (due + msToUs x.periodMs) })).enqueue x.channel x.gate
        { port := x.owner, origin := .schedule i, priority := x.priority }).runArbiter := by
  unfold State.scheduleDue
  rw [found]
  dsimp only
  rw [active]
  dsimp only
  rw [if_pos isDue, injects]

theorem State.scheduleDue_of_not (notDue : ∀ x due, s.schedule i = some x → x.state = .active due →
    reached s.hubTime due = false) : s.scheduleDue i = s := by
  unfold State.scheduleDue
  split
  next => rfl
  next x found =>
    split
    next => rfl
    next due active => rw [notDue x due found active]; rfl

end Due

/-- Settles O31. -/
theorem scheduleDueInjectsOrMisses : Obligations.ScheduleDueInjectsOrMisses := by
  intro s i
  refine ⟨?_, fun notDue => congrArg Host.Outcome.next (State.scheduleDue_of_not notDue)⟩
  intro x due found active isDue advanced missed waiting full
  have misses {cause : MissCause} (why : s.missFor i x = some cause) : missed cause := by
    refine congrArg Host.Outcome.next ?_
    rw [State.scheduleDue_of_miss found active isDue why, saturatingSucc_half]
    rfl
  have checks : s.missFor i x =
      if waiting then some .waiting
      else if !s.usable x.channel then some .unusable
      else if s.freeCredits x.owner = 0 then some .noCredit
      else if s.queueFullFor x.channel x.gate then some .queueFull
      else none := by
    rw [State.missFor, State.isSome_entryOfSchedule]
    rfl
  refine ⟨fun waits => misses ?_, fun clear unusable => misses ?_, fun clear usable none => misses ?_,
    fun clear usable credit isFull => misses ?_, fun clear usable credit room => ?_⟩
  · simp [checks, waits]
  · simp [checks, clear, unusable]
  · simp [checks, clear, usable, none]
  · have noPlace : s.queueFullFor x.channel x.gate = true :=
      (queueFullFor_eq ..).trans (decide_eq_true isFull)
    simp [checks, clear, usable, credit, noPlace]
  · have place : s.queueFullFor x.channel x.gate = false :=
      (queueFullFor_eq ..).trans (decide_eq_false room)
    have injects : s.missFor i x = none := by
      simp [checks, clear, usable, credit, place]
    exact congrArg Host.Outcome.next (State.scheduleDue_of_injection found active isDue injects)

end Sys2Proof.Machine
end

section
/-!
PROOF. A raising on a notice list (R110 to R113), and the commands WATCH_SET, WATCH_CLEAR and ACK_NOTICE (R103, R104,
R115).
-/
namespace Sys2Proof.Machine

/-! ## A raising (R110 to R112) -/

section Raising

variable (w : PortWatch) (raised : NoticeContent) (priority : Priority) (now : Time)

theorem noticesOf_eq_nil_iff {source : NoticeSource} {l : List Notice} :
    noticesOf source l = [] ↔ ∀ n ∈ l, n.source ≠ source := by
  simp [noticesOf, List.filter_eq_nil_iff]

/-- A new notice stands behind those of its priority or a higher one. -/
theorem PortWatch.raise_creates (fresh : ∀ n ∈ w.notices, n.source ≠ raised.source) :
    ∃ before after, w.notices = before ++ after ∧
      (w.raise raised priority now).notices = before ++
        { content := raised, changes := 1, generation := w.generations.read raised.source.index + 1,
          firstRaised := now, priority := priority } :: after ∧
      (∀ n ∈ before, priority ≤ n.priority) ∧ (w.Sound → ∀ n ∈ after, n.priority < priority) := by
  rw [w.notices_raise_of_fresh raised priority now (noticesOf_eq_nil_iff.mpr fresh)]
  obtain ⟨before, after, split, inserted, above, below⟩ := insertNotice_split
    { content := raised, changes := 1, generation := w.generations.read raised.source.index + 1,
      firstRaised := now, priority := priority } w.notices
  exact ⟨before, after, split, inserted, above, fun sound => below sound.ordered⟩

theorem PortWatch.raise_updates (standing : ∃ n ∈ w.notices, n.source = raised.source) :
    (w.raise raised priority now).notices = w.notices.map fun n =>
      if n.source = raised.source then
        { n with content := n.content.updatedBy raised
                 changes := if n.changes = 255 then 255 else n.changes + 1
                 generation := w.generations.read raised.source.index + 1 }
      else n := by
  obtain ⟨n, hn, own⟩ := standing
  have some : noticesOf raised.source w.notices ≠ [] := fun none =>
    noticesOf_eq_nil_iff.mp none n hn own
  rw [w.notices_raise_of_standing raised priority now some]
  refine List.map_congr_left fun m _ => ?_
  rw [Notice.raisedBy, saturatingSucc_byte]

end Raising

/-- Settles O36. -/
theorem raisingCreatesOrUpdates : Obligations.RaisingCreatesOrUpdates := by
  refine ⟨?_, fun old i z ratio seq => ?_, fun g a b a' b' => rfl⟩
  · intro w content priority now v k generation mine
    exact ⟨rfl, Table.read_write_same .., fun j other => Table.read_write_of_ne _ _ other,
      w.raise_creates content priority now, w.raise_updates content priority now⟩
  · cases old <;> rfl

/-! ## The commands (R103, R104, R115) -/

section WatchSet

variable {s : State} {p : PortId} {t : Transaction} {tag : Half} {slot channel notify priority : Byte}
  {low high hyst : Word} (served : s.Serves p t tag (.watchSet slot channel low high hyst notify priority))

theorem boundsGood_iff : boundsGood low high hyst = true ↔
    low.toNat ≤ high.toNat ∧ 2 * hyst.toNat ≤ high.toNat - low.toNat := by
  simp [boundsGood]

include served

theorem exec_watchSet_of_bad (bad : numbered 8 slot = none ∨ numbered 12 channel = none ∨
      numbered 4 priority = none ∨ notifyOf notify = none ∨
      ¬(low.toNat ≤ high.toNat ∧ 2 * hyst.toNat ≤ high.toNat - low.toNat)) :
    exec (.watchSet p tag slot channel low high hyst notify priority) s =
      .next ((s.taken p t).answered p tag (.watchSet slot channel low high hyst notify priority)
        .badParam []) := by
  have run := exec_of_serves (i := .watchSet p tag slot channel low high hyst notify priority) rfl served rfl
  rcases bad with bad | bad | bad | bad | bad
  · rwa [bad] at run
  · rw [bad] at run
    cases slot : numbered 8 slot <;> rwa [slot] at run
  · rw [bad] at run
    cases slot : numbered 8 slot <;> cases channel : numbered 12 channel <;> rwa [slot, channel] at run
  · rw [bad] at run
    cases slot : numbered 8 slot <;> cases channel : numbered 12 channel <;>
      cases priority : numbered 4 priority <;> rwa [slot, channel, priority] at run
  · have outside : boundsGood low high hyst = false := Bool.eq_false_iff.mpr fun h => bad (boundsGood_iff.mp h)
    rw [outside] at run
    cases slot : numbered 8 slot <;> cases channel : numbered 12 channel <;>
      cases priority : numbered 4 priority <;> cases notify : notifyOf notify <;>
      rwa [slot, channel, priority, notify] at run

theorem exec_watchSet {i : SlotId} {c : ChannelId} {n : Priority} {set : NotifySet}
    (sl : numbered 8 slot = some i) (ch : numbered 12 channel = some c) (pr : numbered 4 priority = some n)
    (nt : notifyOf notify = some set)
    (bounds : low.toNat ≤ high.toNat ∧ 2 * hyst.toNat ≤ high.toNat - low.toNat) :
    exec (.watchSet p tag slot channel low high hyst notify priority) s =
      .next (((s.taken p t).setPortWatch p
        ({ s.portWatch p with
            slots := (s.portWatch p).slots.write i (some
              { channel := c, low := low, high := high, hyst := hyst, notify := set, priority := n,
                zone := .unknown }) }.dropNotice (.slot i))).answered p tag
        (.watchSet slot channel low high hyst notify priority) .done
        [flagByte ((s.portWatch p).slots.read i).isSome,
         flagByte ((s.portWatch p).hasNotice (.slot i))]) := by
  have run := exec_of_serves (i := .watchSet p tag slot channel low high hyst notify priority) rfl served rfl
  rw [sl, ch, pr, nt] at run
  dsimp only at run
  rwa [if_pos (boundsGood_iff.mpr bounds)] at run

end WatchSet

section WatchClear

variable {s : State} {p : PortId} {t : Transaction} {tag : Half} {slot : Byte}

theorem clears_watchClear (served : s.Serves p t tag (.watchClear slot)) :
    (numbered 8 slot = none → exec (.watchClear p tag slot) s =
      .next ((s.taken p t).answered p tag (.watchClear slot) .badParam [])) ∧
    (∀ i, numbered 8 slot = some i → (s.portWatch p).slots.read i = none →
      exec (.watchClear p tag slot) s =
        .next ((s.taken p t).answered p tag (.watchClear slot) .notFound [])) ∧
    ∀ i, numbered 8 slot = some i → (s.portWatch p).slots.read i ≠ none →
      exec (.watchClear p tag slot) s = .next (((s.taken p t).setPortWatch p
        ({ s.portWatch p with slots := (s.portWatch p).slots.write i none }.dropNotice
          (.slot i))).answered p tag (.watchClear slot) .done
        [flagByte ((s.portWatch p).hasNotice (.slot i))]) := by
  have run := exec_of_serves (i := .watchClear p tag slot) rfl served rfl
  refine ⟨fun unknown => ?_, fun i known free => ?_, fun i known used => ?_⟩
  · rwa [unknown] at run
  · have free : ((s.taken p t).portWatch p).slots.read i = none := free
    rw [known] at run
    dsimp only at run
    rwa [free] at run
  · obtain ⟨x, watch⟩ := Option.ne_none_iff_exists'.mp used
    have watch : ((s.taken p t).portWatch p).slots.read i = some x := watch
    rw [known] at run
    dsimp only at run
    rwa [watch] at run

end WatchClear

section AckNotice

variable {s : State} {p : PortId} {t : Transaction} {tag : Half} {b : Byte} {generation : Half}

theorem acknowledges_ackNotice (served : s.Serves p t tag (.ackNotice b generation)) :
    (sourceOf b = none → exec (.ackNotice p tag b generation) s =
      .next ((s.taken p t).answered p tag (.ackNotice b generation) .badParam [])) ∧
    (∀ source, sourceOf b = some source → (∀ n ∈ (s.portWatch p).notices, n.source ≠ source) →
      exec (.ackNotice p tag b generation) s =
        .next ((s.taken p t).answered p tag (.ackNotice b generation) .notFound [])) ∧
    ∀ source n, sourceOf b = some source →
      (s.portWatch p).notices.find? (fun n => decide (n.source = source)) = some n →
      (n.generation = generation → exec (.ackNotice p tag b generation) s =
        .next (((s.taken p t).setPortWatch p ((s.portWatch p).dropNotice source)).answered p tag
          (.ackNotice b generation) .done [byteOf ((s.portWatch p).dropNotice source).notices.length])) ∧
      (n.generation ≠ generation → exec (.ackNotice p tag b generation) s =
        .next ((s.taken p t).answered p tag (.ackNotice b generation) .stale
          (be16 n.generation ++ [n.head]))) := by
  have run := exec_of_serves (i := .ackNotice p tag b generation) rfl served rfl
  refine ⟨fun unknown => ?_, fun source known none => ?_, fun source n known found => ?_⟩
  · rwa [unknown] at run
  · have missing : ((s.taken p t).portWatch p).notices.find? (fun n => decide (n.source = source)) =
        Option.none :=
      List.find?_eq_none.mpr fun n hn own => none n hn (of_decide_eq_true own)
    rw [known] at run
    dsimp only at run
    rwa [missing] at run
  · have found : ((s.taken p t).portWatch p).notices.find? (fun n => decide (n.source = source)) = some n :=
      found
    rw [known] at run
    dsimp only at run
    rw [found] at run
    dsimp only at run
    refine ⟨fun same => ?_, fun stale => ?_⟩
    · rwa [if_pos same] at run
    · rwa [if_neg stale] at run

end AckNotice

/-- Settles O33. -/
theorem watchCommandsActOnSlotAndNotice : Obligations.WatchCommandsActOnSlotAndNotice := by
  intro s p t tag u w without noticed
  refine ⟨?_, fun slot => clears_watchClear, fun b generation served => acknowledges_ackNotice served⟩
  intro slot channel low high hyst notify priority c served run bounds
  exact ⟨exec_watchSet_of_bad served, fun i ch n set => exec_watchSet served⟩

end Sys2Proof.Machine
end

section
/-!
PROOF. The lease commands and the end of a lease (R124 to R129, R133).
-/
namespace Sys2Proof.Machine

/-! ## Passing on (R127, R129, R136) -/

section PassOn

variable (s : State) (p : PortId) (g : GroupId)

theorem State.discardStaging_eq : s.discardStaging p g = s.setLeases
    { s.leases with
      staging := (s.discardStaging p g).leases.staging
      hubStaging := (s.discardStaging p g).leases.hubStaging } := by
  unfold State.discardStaging
  dsimp only
  split <;> rfl

theorem State.passOn_of_empty (empty : (s.group g).waiting = []) :
    s.passOn g = s.setGroup g { lease := .free, waiting := [] } := by
  rw [State.passOn, empty]

/-- The lease with the head of the wait list, and its record (R129). -/
def State.grantedTo (s : State) (g : GroupId) (q : LeaseRequest) (rest : List LeaseRequest) : State :=
  (s.setGroup g { lease := .held q.port q.kind (s.hubTime + msToUs q.termMs), waiting := rest }).setCq q.port
    (s.cq q.port ++ [.lease q.tag g q.kind (s.hubTime + msToUs q.termMs) s.hubTime])

theorem State.passOn_of_cons {q : LeaseRequest} {rest : List LeaseRequest}
    (waiting : (s.group g).waiting = q :: rest) : s.passOn g =
      if rest.isEmpty then s.grantedTo g q rest
      else (s.grantedTo g q rest).setPortWatch q.port
        ((s.portWatch q.port).raise (.group g true false) 3 s.hubTime) := by
  rw [State.passOn, waiting]
  rfl

end PassOn

/-- Settles O40. -/
theorem leasePassesToHeadOfWaitList : Obligations.LeasePassesToHeadOfWaitList := by
  refine ⟨?discard, fun s g => ⟨s.passOn_of_empty g, ?pass⟩⟩
  case discard =>
    intro s p g d
    have hub := s.hubStaging_discardStaging p g
    refine ⟨s.staging_discardStaging p g, fun all => ?_, fun partly => ?_, s.discardStaging_eq p g⟩
    · rw [hub, if_pos all]
      rfl
    · rw [hub, partly]
      rfl
  case pass =>
    intro q rest waiting expiry granted
    have passed := s.passOn_of_cons g waiting
    refine ⟨fun last => ?_, fun more => ?_⟩
    · rw [passed, if_pos (List.isEmpty_iff.mpr last)]
      rfl
    · rw [passed, if_neg fun empty => more (List.isEmpty_iff.mp empty)]
      rfl

/-! ## RELEASE and the expiry (R127, R128) -/

section Release

variable {s : State} {p : PortId} {g : GroupId}

/-- The port named by RELEASE: the new holder, or none (R188). -/
theorem State.portOrAbsent_releaseGroup (held : s.holds p g = true) :
    portOrAbsent ((s.releaseGroup p g).holder g) =
      (s.group g).waiting.head?.elim 0xFF fun q => finCode q.port := by
  rw [State.holder, State.group_releaseGroup _ _ _ _ held, if_pos rfl]
  cases (s.group g).waiting <;> rfl

theorem State.leaseExpires_of_due {k : LeaseKind} {d : Time} (held : (s.group g).lease = .held p k d)
    (due : reached s.hubTime d = true) : s.leaseExpires g =
      (((s.discardStaging p g).raiseGroup p g false true).passOn g).runArbiter := by
  unfold State.leaseExpires
  rw [held]
  dsimp only
  rw [if_pos due]

theorem State.leaseExpires_of_not
    (notDue : ∀ p k d, (s.group g).lease = .held p k d → reached s.hubTime d = false) :
    s.leaseExpires g = s := by
  unfold State.leaseExpires
  split
  next => rfl
  next p k d held => rw [notDue p k d held]; rfl

theorem State.raiseGroup_discardStaging : (s.discardStaging p g).raiseGroup p g false true =
    (s.discardStaging p g).setPortWatch p ((s.portWatch p).raise (.group g false true) 3 s.hubTime) := by
  have watch : (s.discardStaging p g).portWatch p = s.portWatch p := by simp [State.portWatch]
  have time : (s.discardStaging p g).hubTime = s.hubTime := by simp
  rw [State.raiseGroup, watch, time]

end Release

/-- Settles O39. -/
theorem leaseEndsByReleaseOrExpiry : Obligations.LeaseEndsByReleaseOrExpiry := by
  refine ⟨?release, fun s g => ⟨fun p k d held due => ?expires, fun notDue => ?stays⟩⟩
  case release =>
    intro s p t tag group served u c run
    have ran := exec_of_serves (i := .release p tag group) rfl served rfl
    refine ⟨fun unknown => ?_, fun g known other => ?_, fun g known held => ?_⟩
    · rwa [unknown] at ran
    · have other : (s.taken p t).holds p g = false := State.holds_eq_false other
      rw [known] at ran
      dsimp only at ran
      rwa [other] at ran
    · have held : (s.taken p t).holds p g = true := State.holds_iff.mpr held
      rw [known] at ran
      dsimp only at ran
      rw [held, State.portOrAbsent_releaseGroup held] at ran
      refine ran.trans ?_
      have same : (s.taken p t).group g = s.group g := rfl
      rw [same]
      cases (s.group g).waiting <;> rfl
  case expires =>
    refine congrArg Host.Outcome.next ?_
    rw [State.leaseExpires_of_due held due, State.raiseGroup_discardStaging]
  case stays => exact congrArg Host.Outcome.next (State.leaseExpires_of_not notDue)

/-! ## LEASE (R124) -/

section Lease

variable {s : State} {p : PortId} {t : Transaction} {tag : Half} {group kind : Byte} {term : Word}

theorem any_port_iff {l : List LeaseRequest} :
    (l.any fun q => decide (q.port = p)) = true ↔ ∃ q ∈ l, q.port = p := by
  simp

/-- The place of a request that joins the tail. -/
theorem placeIn_append {l : List LeaseRequest} {q : LeaseRequest} (fresh : ∀ x ∈ l, x.port ≠ q.port) :
    placeIn q.port (l ++ [q]) = some (l.length + 1) := by
  have none : l.findIdx? (fun x => decide (x.port = q.port)) = .none :=
    List.findIdx?_eq_none_iff.mpr fun x hx => decide_eq_false (fresh x hx)
  simp [placeIn, List.findIdx?_append, none]

/-- R51: a request that waits holds one credit. -/
theorem State.freeCredits_queueLease (s : State) (h : PortId) (g : GroupId) (q : LeaseRequest) :
    (s.queueLease h g q).freeCredits q.port = s.freeCredits q.port - 1 := by
  have joined := (s.items_queueLease h g q q.port).length_eq
  have one : (requestMarks q.port [q]).length = 1 := by simp [requestMarks]
  rw [List.length_append, State.length_items, State.length_items, one] at joined
  rw [State.freeCredits, State.freeCredits, joined]
  omega

theorem State.queueLease_waiting (s : State) (h : PortId) (g : GroupId) (q : LeaseRequest) :
    ((s.queueLease h g q).group g).waiting = (s.group g).waiting ++ [q] := by
  have group : (s.queueLease h g q).group g =
      (s.setGroup g { s.group g with waiting := (s.group g).waiting ++ [q] }).group g := rfl
  rw [group, State.group_setGroup]

theorem State.holds_of_lease {g : GroupId} {l : Lease} (lease : (s.group g).lease = l) :
    s.holds p g = decide (l.holder = some p) := by
  rw [State.holds, State.holder, lease]

variable (served : s.Serves p t tag (.lease group kind term))
include served

theorem exec_lease_of_bad (bad : numbered 3 group = none ∨ kindOf kind = none ∨
      ¬(10 ≤ term.toNat ∧ term.toNat ≤ 600000)) :
    exec (.lease p tag group kind term) s =
      .next ((s.taken p t).answered p tag (.lease group kind term) .badParam []) := by
  have run := exec_of_serves (i := .lease p tag group kind term) rfl served rfl
  rcases bad with bad | bad | bad
  · rwa [bad] at run
  · rw [bad] at run
    cases group : numbered 3 group <;> rwa [group] at run
  · have beyond : termOf term = none := ranged_of_not_mem bad
    rw [beyond] at run
    cases group : numbered 3 group <;> cases kind : kindOf kind <;> rwa [group, kind] at run

variable {g : GroupId} {k : LeaseKind} (gr : numbered 3 group = some g) (kd : kindOf kind = some k)
  (within : 10 ≤ term.toNat ∧ term.toNat ≤ 600000)
include gr kd within

/-- The checks of R124 before the lease itself, in their order. -/
theorem exec_lease_of_refused :
    (s.holds p g = true → exec (.lease p tag group kind term) s =
      .next ((s.taken p t).answered p tag (.lease group kind term) .heldAlready [])) ∧
    (s.holds p g = false → (∃ q ∈ (s.group g).waiting, q.port = p) →
      exec (.lease p tag group kind term) s =
        .next ((s.taken p t).answered p tag (.lease group kind term) .duplicate [])) ∧
    (s.holds p g = false → (¬∃ q ∈ (s.group g).waiting, q.port = p) → s.tagInUse p tag = true →
      exec (.lease p tag group kind term) s =
        .next ((s.taken p t).answered p tag (.lease group kind term) .tagInUse [])) := by
  have run := exec_of_serves (i := .lease p tag group kind term) rfl served rfl
  have inTerm : termOf term = some term := ranged_of_mem within
  rw [gr, kd, inTerm] at run
  dsimp only at run
  refine ⟨fun held => ?_, fun other waits => ?_, fun other fresh inUse => ?_⟩
  · have held : (s.taken p t).holds p g = true := held
    rwa [held] at run
  · have other : (s.taken p t).holds p g = false := other
    have waits : ((s.taken p t).group g).waiting.any (fun q => decide (q.port = p)) = true :=
      any_port_iff.mpr waits
    rwa [other, waits] at run
  · have other : (s.taken p t).holds p g = false := other
    have fresh : ((s.taken p t).group g).waiting.any (fun q => decide (q.port = p)) = false :=
      Bool.eq_false_iff.mpr fun waits => fresh (any_port_iff.mp waits)
    have inUse : (s.taken p t).tagInUse p tag = true := inUse
    rwa [other, fresh, inUse] at run

variable (fresh : ¬∃ q ∈ (s.group g).waiting, q.port = p) (tagFree : s.tagInUse p tag = false)
include fresh tagFree

theorem exec_lease_of_free (free : (s.group g).lease = .free) :
    exec (.lease p tag group kind term) s =
      .next (((s.taken p t).grant p g k term).answered p tag (.lease group kind term) .granted
        ([k.code] ++ be32 (s.hubTime + msToUs term))) := by
  have run := exec_of_serves (i := .lease p tag group kind term) rfl served rfl
  have inTerm : termOf term = some term := ranged_of_mem within
  have other : (s.taken p t).holds p g = false := (State.holds_of_lease (s := s.taken p t) free).trans rfl
  have fresh : ((s.taken p t).group g).waiting.any (fun q => decide (q.port = p)) = false :=
    Bool.eq_false_iff.mpr fun waits => fresh (any_port_iff.mp waits)
  have tagFree : (s.taken p t).tagInUse p tag = false := tagFree
  have free : ((s.taken p t).group g).lease = .free := free
  rw [gr, kd, inTerm] at run
  dsimp only at run
  rwa [other, fresh, tagFree, free] at run

/-- R124, R130: a group held by another port. -/
theorem exec_lease_of_held {h : PortId} {k' : LeaseKind} {e' : Time} (differs : h ≠ p)
    (held : (s.group g).lease = .held h k' e') :
    (s.freeCredits p = 0 → exec (.lease p tag group kind term) s =
      .next ((s.taken p t).answered p tag (.lease group kind term) .noCredit [])) ∧
    (s.freeCredits p ≠ 0 → exec (.lease p tag group kind term) s =
      .next (((s.taken p t).queueLease h g
        { port := p, tag := tag, kind := k, termMs := term }).answered p tag (.lease group kind term) .queued
        [byteOf ((s.group g).waiting.length + 1), byteOf (s.freeCredits p - 1)])) := by
  have run := exec_of_serves (i := .lease p tag group kind term) rfl served rfl
  have inTerm : termOf term = some term := ranged_of_mem within
  have other : (s.taken p t).holds p g = false :=
    (State.holds_of_lease (s := s.taken p t) held).trans
      (decide_eq_false fun same => differs (Option.some.inj same))
  have alone : ((s.taken p t).group g).waiting.any (fun q => decide (q.port = p)) = false :=
    Bool.eq_false_iff.mpr fun waits => fresh (any_port_iff.mp waits)
  have tagFree : (s.taken p t).tagInUse p tag = false := tagFree
  have held : ((s.taken p t).group g).lease = .held h k' e' := held
  rw [gr, kd, inTerm] at run
  dsimp only at run
  rw [other, alone, tagFree, held] at run
  dsimp only at run
  refine ⟨fun none => ?_, fun credit => ?_⟩
  · have none : (s.taken p t).freeCredits p = 0 := none
    rwa [if_pos none] at run
  · have credit : ¬(s.taken p t).freeCredits p = 0 := credit
    have place := placeIn_append (q := { port := p, tag := tag, kind := k, termMs := term })
      (l := (s.group g).waiting) fun x hx same => fresh ⟨x, hx, same⟩
    have credits := (s.taken p t).freeCredits_queueLease h g
      { port := p, tag := tag, kind := k, termMs := term }
    dsimp only at place credits
    rw [if_neg credit, State.queueLease_waiting, credits] at run
    have waiting : ((s.taken p t).group g).waiting = (s.group g).waiting := rfl
    rw [waiting, place] at run
    exact run

end Lease

/-- Settles O37. -/
theorem leaseGrantedOrQueued : Obligations.LeaseGrantedOrQueued := by
  intro s p t tag group kind term c served u run refused inTerm expiry
  refine ⟨exec_lease_of_bad served, ?_⟩
  intro g k gr kd within waits
  obtain ⟨holds, duplicate, inUse⟩ := exec_lease_of_refused served gr kd within
  exact ⟨fun held => holds (State.holds_iff.mpr held),
    fun other => duplicate (State.holds_eq_false other),
    fun other => inUse (State.holds_eq_false other),
    exec_lease_of_free served gr kd within,
    fun h k' e' differs fresh tagFree held =>
      exec_lease_of_held served gr kd within fresh tagFree differs held⟩

/-! ## WITHDRAW and RENEW (R125, R126) -/

section Withdraw

variable {s : State} {p : PortId} {t : Transaction} {tag target : Half}

theorem LeaseRequest.isOf_iff {q : LeaseRequest} :
    LeaseRequest.isOf p target q = true ↔ q.port = p ∧ q.tag = target := by
  simp [LeaseRequest.isOf]

theorem any_isOf_eq_false {l : List LeaseRequest} (none : ∀ q ∈ l, ¬(q.port = p ∧ q.tag = target)) :
    l.any (LeaseRequest.isOf p target) = false :=
  List.any_eq_false.mpr fun q hq own => none q hq (LeaseRequest.isOf_iff.mp own)

theorem withdraws (served : s.Serves p t tag (.withdraw target)) :
    (target = 0 → exec (.withdraw p tag target) s =
      .next ((s.taken p t).answered p tag (.withdraw target) .badParam [])) ∧
    (target ≠ 0 → s.groupWaitedFor p target = none → exec (.withdraw p tag target) s =
      .next ((s.taken p t).answered p tag (.withdraw target) .notFound [])) ∧
    ∀ g, target ≠ 0 → s.groupWaitedFor p target = some g →
      let left := (s.taken p t).setGroup g { s.group g with
        waiting := (s.group g).waiting.filter fun q => !LeaseRequest.isOf p target q }
      exec (.withdraw p tag target) s = .next (left.answered p tag (.withdraw target) .done
        [finCode g, byteOf (left.freeCredits p)]) := by
  have run := exec_of_serves (i := .withdraw p tag target) rfl served rfl
  refine ⟨fun zero => ?_, fun nonzero none => ?_, fun g nonzero found => ?_⟩
  · rwa [if_pos zero] at run
  · have none : (s.taken p t).groupWaitedFor p target = .none := none
    rwa [if_neg nonzero, none] at run
  · have found : (s.taken p t).groupWaitedFor p target = some g := found
    rwa [if_neg nonzero, found] at run

end Withdraw

section Renew

variable {s : State} {p : PortId} {t : Transaction} {tag : Half} {group kind : Byte} {term : Word}
  (served : s.Serves p t tag (.renew group kind term))
include served

theorem exec_renew_of_bad (bad : numbered 3 group = none ∨ kindOf kind = none ∨
      ¬(10 ≤ term.toNat ∧ term.toNat ≤ 600000)) :
    exec (.renew p tag group kind term) s =
      .next ((s.taken p t).answered p tag (.renew group kind term) .badParam []) := by
  have run := exec_of_serves (i := .renew p tag group kind term) rfl served rfl
  rcases bad with bad | bad | bad
  · rwa [bad] at run
  · rw [bad] at run
    cases group : numbered 3 group <;> rwa [group] at run
  · have beyond : termOf term = none := ranged_of_not_mem bad
    rw [beyond] at run
    cases group : numbered 3 group <;> cases kind : kindOf kind <;> rwa [group, kind] at run

theorem exec_renew {g : GroupId} {k : LeaseKind} (gr : numbered 3 group = some g)
    (kd : kindOf kind = some k) (within : 10 ≤ term.toNat ∧ term.toNat ≤ 600000) :
    (s.holder g ≠ some p → exec (.renew p tag group kind term) s =
      .next ((s.taken p t).answered p tag (.renew group kind term) .notHolder [])) ∧
    (s.holder g = some p → (s.group g).waiting ≠ [] → exec (.renew p tag group kind term) s =
      .next ((s.taken p t).answered p tag (.renew group kind term) .contended [])) ∧
    (s.holder g = some p → (s.group g).waiting = [] → exec (.renew p tag group kind term) s =
      .next (((s.taken p t).grant p g k term).runArbiter.answered p tag (.renew group kind term) .done
        (be32 (s.hubTime + msToUs term)))) := by
  have run := exec_of_serves (i := .renew p tag group kind term) rfl served rfl
  have inTerm : termOf term = some term := ranged_of_mem within
  rw [gr, kd, inTerm] at run
  dsimp only at run
  refine ⟨fun other => ?_, fun held contended => ?_, fun held alone => ?_⟩
  · have other : (s.taken p t).holds p g = false := State.holds_eq_false other
    rwa [other] at run
  · have held : (s.taken p t).holds p g = true := State.holds_iff.mpr held
    have contended : ((s.taken p t).group g).waiting.isEmpty = false :=
      Bool.eq_false_iff.mpr fun empty => contended (List.isEmpty_iff.mp empty)
    rwa [held, contended] at run
  · have held : (s.taken p t).holds p g = true := State.holds_iff.mpr held
    have alone : ((s.taken p t).group g).waiting.isEmpty = true := List.isEmpty_iff.mpr alone
    rwa [held, alone] at run

end Renew

/-- Settles O38. -/
theorem withdrawAndRenew : Obligations.WithdrawAndRenew := by
  intro s p t tag u
  constructor
  · intro target served c run mine
    obtain ⟨bad, missing, found⟩ := withdraws served
    refine ⟨bad, fun nonzero none => missing nonzero ?_, fun g nonzero waits least => found g nonzero ?_⟩
    · refine List.find?_eq_none.mpr fun g _ waits => ?_
      rw [any_isOf_eq_false (none g)] at waits
      cases waits
    · obtain ⟨q, hq, own⟩ := waits
      exact find?_everyIndex_of_least
        (List.any_eq_true.mpr ⟨q, hq, LeaseRequest.isOf_iff.mpr own⟩)
        fun h below => any_isOf_eq_false (least h below)
  · intro group kind term served c run inTerm expiry
    exact ⟨exec_renew_of_bad served, fun g k gr kd within => exec_renew served gr kd within⟩

end Sys2Proof.Machine
end

section
/-!
PROOF. Staged edits (R137, R138) and COMMIT (R140 to R142): what is staged, what a commit applies, and the order of
its checks.
-/
namespace Sys2Proof.Machine

/-! ## What a commit applies (R141, R12, R40) -/

section Applied

variable (s : State) (scope : CommitScope)

theorem CommitScope.covers_iff {scope : CommitScope} {c : ChannelId} :
    scope.covers c = true ↔ scope = none ∨ scope = some (groupOf c) := by
  cases scope with
  | none => simp [CommitScope.covers]
  | some g => simp [CommitScope.covers, eq_comm]

theorem State.channel_applyCommit (c : ChannelId) : (s.applyCommit scope).channel c =
    { settings := s.settingsAfter scope c
      revision := if s.revisionAdvances scope c then (s.channel c).revision + 1
        else (s.channel c).revision } := by
  rw [State.channel, State.config_applyCommit]
  exact Table.read_tabulate ..

theorem State.refRecord_applyCommit (r : RefId) : (s.applyCommit scope).refRecord r = s.refAfter scope r := by
  rw [State.refRecord, State.config_applyCommit]
  cases r <;> rfl

theorem State.health_applyCommit (r : RefId) : (s.applyCommit scope).health r = s.healthAfter scope r := by
  cases scope <;> cases r <;> rfl

theorem State.staging_applyCommit (c : ChannelId) : (s.applyCommit scope).leases.staging.read c =
    if scope.covers c then none else s.leases.staging.read c := by
  have staging : (s.applyCommit scope).leases.staging = s.stagingAfter scope := by cases scope <;> rfl
  rw [staging]
  exact Table.read_tabulate ..

theorem State.applyCommit_eq : s.applyCommit scope =
    ((s.setConfig (s.applyCommit scope).config).setEngine (s.applyCommit scope).engine).setLeases
      (s.applyCommit scope).leases := by
  cases scope <;> rfl

variable {s scope}

theorem State.settingsAfter_of_staged {c : ChannelId} {x : StagedChannel} (covered : scope.covers c = true)
    (staged : s.leases.staging.read c = some x) :
    s.settingsAfter scope c = x.appliedTo (s.channel c).settings := by
  rw [State.settingsAfter, State.coveredChannel, if_pos covered, staged]
  rfl

theorem State.settingsAfter_of_not {c : ChannelId}
    (kept : ¬scope.covers c = true ∨ s.leases.staging.read c = none) :
    s.settingsAfter scope c = (s.channel c).settings := by
  have none : s.coveredChannel scope c = none := by
    rw [State.coveredChannel]
    rcases kept with outside | empty
    · exact if_neg outside
    · rw [empty, ite_self]
  rw [State.settingsAfter, none]
  rfl

theorem State.refAfter_of_not {r : RefId} (kept : scope ≠ none ∨ s.leases.hubStaging.refs.read r = none) :
    s.refAfter scope r = s.refRecord r := by
  have none : (s.coveredHub scope).refs.read r = none := by
    cases scope with
    | none => exact kept.resolve_left (not_not_intro rfl)
    | some g => cases r <;> rfl
  rw [State.refAfter, none]
  rfl

/-- R12, in terms of what the commit leaves. -/
theorem State.revisionAdvances_iff {c : ChannelId} : s.revisionAdvances scope c = true ↔
    s.settingsAfter scope c ≠ (s.channel c).settings ∨
      s.refAfter scope (s.settingsAfter scope c).reference ≠
        s.refRecord (s.settingsAfter scope c).reference := by
  simp [State.revisionAdvances, State.channelChanges, State.refChanges]

end Applied

/-- Settles O44. -/
theorem commitAppliesStagedFields : Obligations.CommitAppliesStagedFields := by
  intro s scope v covered
  have covers {c : ChannelId} : scope.covers c = true ↔ covered c := CommitScope.covers_iff
  refine ⟨fun c => ⟨fun x cov staged => ?staged, fun kept => ?kept, ?revision⟩,
    fun r => ⟨fun x hub staged => ?ref, fun kept => ?refKept, ?health⟩, fun hub => ?hub, fun group => ?group,
    fun c => ⟨fun cov => ?emptied, fun outside => ?stays⟩, s.groups_applyCommit scope,
    (s.applyCommit_conversion scope).1, (s.applyCommit_conversion scope).2, s.applyCommit_eq scope⟩
  case staged =>
    rw [s.channel_applyCommit scope c]
    exact State.settingsAfter_of_staged (covers.mpr cov) staged
  case kept =>
    rw [s.channel_applyCommit scope c]
    exact State.settingsAfter_of_not (kept.imp_left (mt covers.mp))
  case revision =>
    simp only [v, s.channel_applyCommit scope c, s.refRecord_applyCommit scope, State.revisionAdvances_iff]
  case ref =>
    rw [s.refRecord_applyCommit scope r, State.refAfter, hub]
    have staged : (s.coveredHub none).refs.read r = some x := staged
    rw [staged]
    rfl
  case refKept =>
    rw [s.refRecord_applyCommit scope r]
    exact State.refAfter_of_not kept
  case health =>
    rw [s.health_applyCommit scope r, s.refRecord_applyCommit scope r, State.healthAfter, State.refChanges]
    by_cases same : s.refAfter scope r = s.refRecord r
    · rw [if_pos same, if_neg (by simpa using same)]
    · rw [if_neg same, if_pos (by simpa using same)]
      rfl
  case hub =>
    subst hub
    exact ⟨rfl, rfl, rfl⟩
  case group =>
    cases scope with
    | none => exact absurd rfl group
    | some g => exact ⟨rfl, rfl, rfl⟩
  case emptied => rw [s.staging_applyCommit scope c, if_pos (covers.mpr cov)]
  case stays => rw [s.staging_applyCommit scope c, if_neg (mt covers.mp outside)]

/-! ## The report of a commit (R142, R188) -/

section Report

variable (s : State) (scope : CommitScope)

theorem State.commitAborts_iff : s.commitAborts scope = true ↔
    ∃ c, s.engine.conversion = some c ∧
      (s.settingsAfter scope c.channel ≠ (s.channel c.channel).settings ∨
        s.refAfter scope c.reference ≠ s.refRecord c.reference) := by
  unfold State.commitAborts
  cases s.engine.conversion with
  | none => simp
  | some c => simp [State.channelChanges, State.refChanges]

/-- A revision that advances is another one. -/
theorem State.revision_applyCommit_ne_iff (c : ChannelId) :
    ((s.applyCommit scope).channel c).revision ≠ (s.channel c).revision ↔
      s.revisionAdvances scope c = true := by
  rw [s.channel_applyCommit scope c]
  dsimp only
  by_cases advances : s.revisionAdvances scope c = true
  · rw [if_pos advances]
    simp [advances]
  · simp [advances]

/-- The bits of a mask built by setting one bit for each number of a list. -/
theorem getLsbD_foldl_mask (l : List ChannelId) (m : Half) (k : Nat) :
    (l.foldl (fun (m : Half) (c : ChannelId) => m ||| (1 <<< c.val)) m).getLsbD k = true ↔
      m.getLsbD k = true ∨ ∃ c ∈ l, c.val = k := by
  induction l generalizing m with
  | nil => simp
  | cons c l ih =>
    have bit : ((1 <<< c.val : Nat) : Half).getLsbD k = true ↔ c.val = k := by
      have below := c.isLt
      rw [BitVec.natCast_eq_ofNat, BitVec.getLsbD_ofNat, Nat.shiftLeft_eq, Nat.one_mul,
        Nat.testBit_two_pow, Bool.and_eq_true, decide_eq_true_iff, decide_eq_true_iff]
      omega
    rw [List.foldl_cons, ih, BitVec.getLsbD_or, Bool.or_eq_true, bit]
    simp [or_assoc]

/-- R188: the channels whose revisions advance. -/
theorem State.filter_advances : (everyIndex 12).filter (s.revisionAdvances scope) =
    (everyIndex 12).filter fun c =>
      decide (((s.applyCommit scope).channel c).revision ≠ (s.channel c).revision) := by
  refine List.filter_congr fun c _ => ?_
  rw [Bool.eq_iff_iff, decide_eq_true_iff, State.revision_applyCommit_ne_iff]

theorem State.revision_of_advances {c : ChannelId} (advances : s.revisionAdvances scope c = true) :
    (s.channel c).revision + 1 = ((s.applyCommit scope).channel c).revision := by
  rw [s.channel_applyCommit scope c]
  exact (if_pos advances).symm

theorem State.refChanges_iff {r : RefId} : s.refChanges scope r = true ↔
    (s.applyCommit scope).refRecord r ≠ s.refRecord r := by
  rw [s.refRecord_applyCommit scope r, State.refChanges, decide_eq_true_iff]

theorem or_flags (a b : Prop) [Decidable a] [Decidable b] :
    ((if a then 1 else 0) ||| (if b then 2 else 0) : Byte) = (if a then 1 else 0) + (if b then 2 else 0) := by
  by_cases a <;> by_cases b <;> simp [*]

theorem commitPayload_eq (t : State) : ∃ mask : Half,
    (∀ k, mask.getLsbD k = true ↔ ∃ c : ChannelId, c.val = k ∧
      decide (((s.applyCommit scope).channel c).revision ≠ (s.channel c).revision) = true) ∧
    commitPayload s t scope = be16 mask ++
      ((everyIndex 12).filter fun c =>
        decide (((s.applyCommit scope).channel c).revision ≠ (s.channel c).revision)).flatMap
          (fun c => be16 ((s.applyCommit scope).channel c).revision) ++
      [(if (s.applyCommit scope).refRecord .a ≠ s.refRecord .a then 1 else 0) +
          (if (s.applyCommit scope).refRecord .b ≠ s.refRecord .b then 2 else 0),
       if s.commitAborts scope then 1 else 0,
       BitVec.ofNat 8 (t.entries.countP fun e => decide (e.state = .pending) && !t.usable e.channel)] := by
  refine ⟨((everyIndex 12).filter (s.revisionAdvances scope)).foldl (fun m c => m ||| (1 <<< c.val)) 0,
    fun k => ?_, ?_⟩
  · rw [getLsbD_foldl_mask]
    simp only [BitVec.ofNat_eq_ofNat, BitVec.getLsbD_zero, Bool.false_eq_true, false_or, List.mem_filter,
      mem_everyIndex, true_and, decide_eq_true_iff, State.revision_applyCommit_ne_iff, and_comm]
  · have revisions : ((everyIndex 12).filter (s.revisionAdvances scope)).flatMap
        (fun c => be16 ((s.channel c).revision + 1)) =
        ((everyIndex 12).filter (s.revisionAdvances scope)).flatMap
          fun c => be16 ((s.applyCommit scope).channel c).revision :=
      congrArg List.flatten <| List.map_congr_left fun c hc => by
        rw [State.revision_of_advances s scope (List.mem_filter.mp hc).2]
    rw [commitPayload, revisions, ← or_flags]
    simp only [← State.refChanges_iff, ← s.filter_advances scope]
    rfl

end Report

/-! ## The checks of COMMIT (R140) -/

section Checks

variable {s : State} {p : PortId} {t : Transaction} {tag : Half} {b : Byte} {scope : CommitScope}

theorem commitSelector_of_scope
    (selects : (scope = none ∧ b = 0xFF) ∨ ∃ g, scope = some g ∧ b.toNat = g.val) :
    commitSelector b = some scope := by
  rcases selects with ⟨rfl, hub⟩ | ⟨g, rfl, same⟩
  · exact if_pos hub
  · have notHub : b ≠ 0xFF := by
      rintro rfl
      have top : (0xFF : Byte).toNat = 255 := rfl
      omega
    rw [commitSelector, if_neg notHub, numbered_of_eq same]
    rfl

theorem commitSelector_of_beyond (notHub : b ≠ 0xFF) (beyond : 3 ≤ b.toNat) : commitSelector b = none := by
  rw [commitSelector, if_neg notHub, numbered_of_le beyond]
  rfl

theorem State.mayCommit_iff : s.mayCommit p scope = true ↔
    ∀ g, scope = none ∨ scope = some g → s.holder g = some p := by
  cases scope with
  | none => simp [State.mayCommit, State.holdsAll_iff]
  | some g => simp [State.mayCommit, State.holds_iff]

theorem exec_commit (served : s.Serves p t tag (.commit b)) (selects : commitSelector b = some scope) :
    (s.mayCommit p scope = false → exec (.commit p tag b) s =
      .next ((s.taken p t).answered p tag (.commit b) .notHolder [])) ∧
    (s.mayCommit p scope = true → s.somethingStaged scope = false → exec (.commit p tag b) s =
      .next ((s.taken p t).answered p tag (.commit b) .notFound [])) ∧
    (s.mayCommit p scope = true → s.somethingStaged scope = true → (s.tableAfter scope).valid = false →
      exec (.commit p tag b) s = .next ((s.taken p t).answered p tag (.commit b) .rejected
        ((s.tableAfter scope).lowestFailing.map finCode).toList)) ∧
    (s.mayCommit p scope = true → s.somethingStaged scope = true → (s.tableAfter scope).valid = true →
      exec (.commit p tag b) s = .next (((s.taken p t).commit scope).state.answered p tag (.commit b)
        .done ((s.taken p t).commit scope).payload)) := by
  have run := exec_of_serves (i := .commit p tag b) rfl served rfl
  rw [selects] at run
  dsimp only at run
  refine ⟨fun other => ?_, fun holds none => ?_, fun holds staged invalid => ?_,
    fun holds staged valid => ?_⟩
  · have other : (s.taken p t).mayCommit p scope = false := other
    rwa [other] at run
  · have holds : (s.taken p t).mayCommit p scope = true := holds
    have none : (s.taken p t).somethingStaged scope = false := none
    rwa [holds, none] at run
  · have holds : (s.taken p t).mayCommit p scope = true := holds
    have staged : (s.taken p t).somethingStaged scope = true := staged
    have invalid : ((s.taken p t).tableAfter scope).valid = false := invalid
    rwa [holds, staged, invalid] at run
  · have holds : (s.taken p t).mayCommit p scope = true := holds
    have staged : (s.taken p t).somethingStaged scope = true := staged
    have valid : ((s.taken p t).tableAfter scope).valid = true := valid
    rwa [holds, staged, valid] at run

end Checks

/-- Settles O43. -/
theorem commitCheckedInOrder : Obligations.CommitCheckedInOrder := by
  constructor
  · intro s scope v advances
    refine ⟨?_, commitPayload_eq s scope⟩
    simp only [v, s.channel_applyCommit scope, s.refRecord_applyCommit scope]
    exact s.commitAborts_iff scope
  · intro s p t tag b served u run c
    refine ⟨fun notHub beyond => ?_, ?_⟩
    · have ran := exec_of_serves (i := .commit p tag b) rfl served rfl
      rwa [commitSelector_of_beyond notHub beyond] at ran
    · intro scope selects holds
      obtain ⟨notHolder, notFound, rejected, applied⟩ := exec_commit served (commitSelector_of_scope selects)
      exact ⟨fun other => notHolder (Bool.eq_false_iff.mpr fun may => other (State.mayCommit_iff.mp may)),
        fun held => notFound (State.mayCommit_iff.mpr held),
        fun held => rejected (State.mayCommit_iff.mpr held),
        fun held => applied (State.mayCommit_iff.mpr held)⟩

/-! ## Staging (R137, R138) -/

section Staging

variable {s : State} {p : PortId} {t : Transaction} {tag : Half}

theorem stages_channel {ch mask en rf : Byte} {gl st : Half} {ol sl : Tri}
    (served : s.Serves p t tag (.stageChannel ch mask en rf gl st ol sl)) :
    (numbered 12 ch = none ∨ channelForm mask en rf gl st ol sl = none →
      exec (.stageChannel p tag ch mask en rf gl st ol sl) s =
        .next ((s.taken p t).answered p tag (.stageChannel ch mask en rf gl st ol sl) .badParam [])) ∧
    ∀ k given, numbered 12 ch = some k → channelForm mask en rf gl st ol sl = some given →
      (s.holder (groupOf k) ≠ some p → exec (.stageChannel p tag ch mask en rf gl st ol sl) s =
        .next ((s.taken p t).answered p tag (.stageChannel ch mask en rf gl st ol sl) .notHolder [])) ∧
      (s.holder (groupOf k) = some p →
        let merged := given.merge ((s.leases.staging.read k).getD StagedChannel.blank)
        exec (.stageChannel p tag ch mask en rf gl st ol sl) s =
          .next (((s.taken p t).setStaging (s.leases.staging.write k (some merged))).answered p tag
            (.stageChannel ch mask en rf gl st ol sl) .done (merged.bytes k))) := by
  have run := exec_of_serves (i := .stageChannel p tag ch mask en rf gl st ol sl) rfl served rfl
  refine ⟨fun bad => ?_, fun k given known form => ⟨fun other => ?_, fun held => ?_⟩⟩
  · rcases bad with bad | bad
    · rwa [bad] at run
    · rw [bad] at run
      cases channel : numbered 12 ch <;> rwa [channel] at run
  · have other : (s.taken p t).holds p (groupOf k) = false := State.holds_eq_false other
    rw [known, form] at run
    dsimp only at run
    rwa [other] at run
  · have held : (s.taken p t).holds p (groupOf k) = true := State.holds_iff.mpr held
    rw [known, form] at run
    dsimp only at run
    rwa [held] at run

theorem stages_reference {b mask en : Byte} {st ca ho : Half}
    (served : s.Serves p t tag (.stageReference b mask en st ca ho)) :
    (refOf b = none ∨ referenceForm mask en st ca ho = none →
      exec (.stageReference p tag b mask en st ca ho) s =
        .next ((s.taken p t).answered p tag (.stageReference b mask en st ca ho) .badParam [])) ∧
    ∀ r given, refOf b = some r → referenceForm mask en st ca ho = some given →
      ((∃ g, s.holder g ≠ some p) → exec (.stageReference p tag b mask en st ca ho) s =
        .next ((s.taken p t).answered p tag (.stageReference b mask en st ca ho) .notHolder [])) ∧
      ((∀ g, s.holder g = some p) →
        let hub := s.leases.hubStaging
        let merged := given.merge ((hub.refs.read r).getD StagedRef.blank)
        exec (.stageReference p tag b mask en st ca ho) s =
          .next (((s.taken p t).setHubStaging
            { hub with refs := hub.refs.write r (some merged) }).answered p tag
            (.stageReference b mask en st ca ho) .done (merged.bytes r))) := by
  have run := exec_of_serves (i := .stageReference p tag b mask en st ca ho) rfl served rfl
  refine ⟨fun bad => ?_, fun r given known form => ⟨fun other => ?_, fun held => ?_⟩⟩
  · rcases bad with bad | bad
    · rwa [bad] at run
    · rw [bad] at run
      cases reference : refOf b <;> rwa [reference] at run
  · have other : (s.taken p t).holdsAll p = false := State.holdsAll_eq_false other
    rw [known, form] at run
    dsimp only at run
    rwa [other] at run
  · have held : (s.taken p t).holdsAll p = true := (State.holdsAll_iff _ p).mpr held
    rw [known, form] at run
    dsimp only at run
    rwa [held] at run

theorem stages_hub {mask : Byte} {age ext : Half} (served : s.Serves p t tag (.stageHub mask age ext)) :
    (hubForm mask age ext = none → exec (.stageHub p tag mask age ext) s =
      .next ((s.taken p t).answered p tag (.stageHub mask age ext) .badParam [])) ∧
    ∀ a e, hubForm mask age ext = some (a, e) →
      ((∃ g, s.holder g ≠ some p) → exec (.stageHub p tag mask age ext) s =
        .next ((s.taken p t).answered p tag (.stageHub mask age ext) .notHolder [])) ∧
      ((∀ g, s.holder g = some p) →
        let hub := s.leases.hubStaging
        exec (.stageHub p tag mask age ext) s =
          .next (((s.taken p t).setHubStaging
            { hub with ageStepMs := a.or hub.ageStepMs, extWaitMs := e.or hub.extWaitMs }).answered p tag
            (.stageHub mask age ext) .done
            (hubFormBytes (a.or hub.ageStepMs) (e.or hub.extWaitMs)))) := by
  have run := exec_of_serves (i := .stageHub p tag mask age ext) rfl served rfl
  refine ⟨fun bad => ?_, fun a e form => ⟨fun other => ?_, fun held => ?_⟩⟩
  · rwa [bad] at run
  · have other : (s.taken p t).holdsAll p = false := State.holdsAll_eq_false other
    rw [form] at run
    dsimp only at run
    rwa [other] at run
  · have held : (s.taken p t).holdsAll p = true := (State.holdsAll_iff _ p).mpr held
    rw [form] at run
    dsimp only at run
    rwa [held] at run

end Staging

/-- Settles O41. -/
theorem stageCommandsMergeGivenFields : Obligations.StageCommandsMergeGivenFields := by
  intro s p t tag u
  refine ⟨?channel, ?reference, ?hub⟩
  case channel =>
    intro ch mask en rf gl st ol sl c served
    exact stages_channel served
  case reference =>
    intro b mask en st ca ho c served
    exact stages_reference served
  case hub =>
    intro mask age ext c served
    exact stages_hub served

end Sys2Proof.Machine
end

section
/-!
PROOF. What a commit does to the queue (R66, R67), how a count phase is judged (R31, R32, R36), and the effective
priority with its aging limit (R56).
-/
namespace Sys2Proof.Machine

/-! ## The IN_FLIGHT entry (R47) -/

section Flight

variable {s : State} {e : Entry}

/-- Within the queue's bounds the IN_FLIGHT entry is the only one. -/
theorem State.QueueSound.inFlightEntry (queue : s.QueueSound) (mem : e ∈ s.entries)
    (flying : e.state = .inFlight) : s.inFlightEntry = some e := by
  have flies : e ∈ s.entries.filter Entry.isInFlight :=
    List.mem_filter.mpr ⟨mem, Entry.isInFlight_iff.mpr flying⟩
  rw [State.inFlightEntry, ← List.head?_filter]
  rcases queue.bounds.inFlight_cases with ⟨none, -⟩ | ⟨f, single, -⟩
  · rw [none] at flies
    cases flies
  · rw [single, List.mem_singleton] at flies
    rw [single, flies, List.head?_cons]

/-- R66: the state after the abort of the entry in flight. -/
theorem State.abortInFlight_of_some (found : s.inFlightEntry = some e) :
    s.abortInFlight = (s.stopEngine.deliver e .aborted).removeEntry e := by
  have stopped : s.stopEngine.inFlightEntry = some e := found
  rw [State.abortInFlight, stopped]

theorem State.cq_abortInFlight_of_some (found : s.inFlightEntry = some e) (p : PortId) :
    s.abortInFlight.cq p = s.cq p ++ e.recordsFor p .aborted s.hubTime := by
  rw [State.abortInFlight_of_some found]
  exact State.cq_deliver ..

theorem State.queue_abortInFlight_of_some (found : s.inFlightEntry = some e) :
    s.abortInFlight.queue = { s.queue with entries := s.entries.erase e } := by
  have delivered : (s.stopEngine.deliver e .aborted).queue = s.queue := State.deliver_queue ..
  rw [State.abortInFlight_of_some found, State.removeEntry, State.setEntries_queue, State.entries, delivered]
  rfl

theorem State.engine_abortInFlight (s : State) :
    s.abortInFlight.engine = { s.engine with conversion := none, edgeCounter := 0 } := by
  unfold State.abortInFlight
  dsimp only
  split
  · rfl
  · rw [State.removeEntry_engine, State.deliver_engine]
    rfl

end Flight

/-! ## Disabled entries (R67) -/

section Disabled

variable (s : State)

theorem State.queue_removeDisabled : s.removeDisabled.queue =
    { s.queue with entries := s.entries.filter fun e => !s.disables e } := by
  have told (l : List Entry) (t : State) :
      (l.foldl (fun t e => t.deliver e .disabled) t).queue = t.queue := by
    induction l generalizing t with
    | nil => rfl
    | cons e l ih => rw [List.foldl_cons, ih, State.deliver_queue]
  rw [State.removeDisabled]
  dsimp only
  rw [State.setEntries_queue, told]

end Disabled

/-- Settles O45. -/
theorem commitAbortsAndDisables : Obligations.CommitAbortsAndDisables := by
  intro s e queue records unusable disabled
  have removed (t : State) : t.removeDisabled.queue =
      { t.queue with entries := t.entries.filter fun f => !t.disables f } := t.queue_removeDisabled
  refine ⟨fun mem flying => ?_, by simp, by simp, congrArg RequestQueue.entries (removed s),
    (congrArg RequestQueue.arrivals (removed s)).trans rfl, by simp, by simp, s.cq_removeDisabled⟩
  intro v
  have found := queue.inFlightEntry mem flying
  have aborted := State.queue_abortInFlight_of_some found
  have entries : s.abortInFlight.entries = s.entries.erase e := congrArg RequestQueue.entries aborted
  have disables (f : Entry) : s.abortInFlight.disables f = unusable f := by
    rw [State.disables, State.usable, State.abortInFlight_config]
    rfl
  have notDisabled : (s.entries.erase e).filter unusable = disabled := by
    rw [← List.erase_filter]
    refine List.erase_of_not_mem fun gone => ?_
    have pending := (List.mem_filter.mp gone).2
    simp [unusable, flying] at pending
  have stopped := s.stopped_abortInFlight
  refine ⟨?selection, ?engine, ?entries, ?arrivals, by simp [v], by simp [v], fun p => ?records⟩
  case selection => rw [State.removeDisabled_selection, stopped.selection]
  case engine => rw [State.removeDisabled_engine, State.engine_abortInFlight]
  case entries =>
    refine (congrArg RequestQueue.entries (removed _)).trans ?_
    dsimp only
    rw [entries]
    simp only [disables]
  case arrivals =>
    refine (congrArg RequestQueue.arrivals (removed _)).trans ?_
    rw [aborted]
  case records =>
    have gone : s.abortInFlight.entries.filter s.abortInFlight.disables = disabled := by
      rw [entries, ← notDisabled]
      exact List.filter_congr fun f _ => disables f
    rw [State.cq_removeDisabled, gone, State.cq_abortInFlight_of_some found, State.abortInFlight_hubTime]
    rfl

/-! ## A count phase judged (R31, R32, R36) -/

section Judged

variable {s : State} {c : Conversion} {how : PhaseEnd} {m : Measured}

theorem referenceGood_iff {count : Tri} : referenceGood how count = true ↔ how = .closed ∧ count ≠ 0 := by
  simp [referenceGood]

theorem State.endCount_of_reference (none : c.refCount = none) : s.endCount c how m = s.judgeReference c how m := by
  rw [State.endCount, none]

theorem State.endCount_of_sensor {ref : Measured} (counted : c.refCount = some ref) :
    s.endCount c how m = s.judgeSensor c how ref m := by
  rw [State.endCount, counted]

theorem State.judgeReference_of_bad (bad : how ≠ .closed ∨ m.count = 0) : s.judgeReference c how m =
    (s.recordFault c.reference).finish c (c.outcome s.hubTime .refFault none (some m) none) := by
  refine if_neg fun good => ?_
  obtain ⟨closed, counted⟩ := referenceGood_iff.mp good
  rcases bad with other | zero
  · exact other closed
  · exact counted zero

theorem State.judgeReference_of_external (closed : how = .closed) (counted : m.count ≠ 0)
    (external : c.gate = .external) : s.judgeReference c how m = s.enterSettleSens c m := by
  rw [State.judgeReference, if_pos (referenceGood_iff.mpr ⟨closed, counted⟩), external]

theorem State.judgeReference_of_timebase (closed : how = .closed) (counted : m.count ≠ 0)
    (timebase : c.gate = .timebase) : s.judgeReference c how m =
      (s.fillCache c.reference m.count (s.channel c.channel).settings.gateLength).enterSettleSens c m := by
  rw [State.judgeReference, if_pos (referenceGood_iff.mpr ⟨closed, counted⟩), timebase]

end Judged

/-- Settles O48. -/
theorem countPhaseJudged : Obligations.CountPhaseJudged := by
  refine ⟨?reference, ?sensor, ?finish⟩
  case reference =>
    intro s c how m none limit settling sensing
    refine ⟨fun closed counted external => ?_, fun closed counted timebase => ?_, fun bad => ?_⟩
    · rw [State.endCount_of_reference none, State.judgeReference_of_external closed counted external]
      rfl
    · rw [State.endCount_of_reference none, State.judgeReference_of_timebase closed counted timebase]
      rfl
    · rw [State.endCount_of_reference none, State.judgeReference_of_bad bad, Conversion.outcome,
        Option.isSome_some, Bool.and_true]
      rfl
  case sensor =>
    intro s c how ref sens counted verdict
    rw [State.endCount_of_sensor counted, State.judgeSensor, Conversion.outcome, Option.isSome_some,
      Bool.and_true]
  case finish =>
    intro s c o e found stopped
    have found : s.stopEngine.inFlightEntry = some e := found
    rw [State.finish, found]
    rfl

/-! ## The effective priority (R56) -/

section Priority

theorem highestPriority_cons (w : Waiter) (l : List Waiter) :
    highestPriority (w :: l) = max w.priority.val (highestPriority l) := rfl

theorem highestPriority_le {l : List Waiter} {top : Nat} (bound : ∀ w ∈ l, w.priority.val ≤ top) :
    highestPriority l ≤ top := by
  induction l with
  | nil => exact Nat.zero_le _
  | cons w l ih =>
    rw [highestPriority_cons, Nat.max_le]
    exact ⟨bound w List.mem_cons_self, ih fun v hv => bound v (List.mem_cons_of_mem w hv)⟩

theorem le_highestPriority {l : List Waiter} {w : Waiter} (mem : w ∈ l) :
    w.priority.val ≤ highestPriority l := by
  induction l with
  | nil => cases mem
  | cons v l ih =>
    rw [highestPriority_cons]
    rcases List.mem_cons.mp mem with rfl | later
    · exact Nat.le_max_left ..
    · exact Nat.le_trans (ih later) (Nat.le_max_right ..)

theorem highestPriority_of_greatest {l : List Waiter} {top : Nat} (bound : ∀ w ∈ l, w.priority.val ≤ top)
    (attained : ∃ w ∈ l, w.priority.val = top) : highestPriority l = top := by
  obtain ⟨w, hw, rfl⟩ := attained
  exact Nat.le_antisymm (highestPriority_le bound) (le_highestPriority hw)

/-- R56: the waiting time, or the limit once it has expired. -/
theorem Entry.waitingTime_eq (e : Entry) (now : Time) : e.waitingTime now =
    if e.agingDeadline = none then 2147483647 else (now - e.created).toNat := by
  unfold Entry.waitingTime
  cases e.agingDeadline <;> rfl

theorem Entry.agingExpired_of_reached {e : Entry} {d now : Time} (limit : e.agingDeadline = some d)
    (due : reached now d = true) : e.agingExpired now = { e with agingDeadline := none } := by
  rw [Entry.agingExpired, limit]
  exact if_pos due

theorem Entry.agingExpired_of_not {e : Entry} {now : Time}
    (notDue : ∀ d, e.agingDeadline = some d → reached now d = false) : e.agingExpired now = e := by
  unfold Entry.agingExpired
  split
  next d limit => rw [notDue d limit]; rfl
  next => rfl

/-- One entry of the queue changes. -/
theorem modify_eq_set {l : List Entry} {k : Nat} {e : Entry} (found : l[k]? = some e) (f : Entry → Entry) :
    l.modify k f = l.set k (f e) := by
  refine List.ext_getElem? fun j => ?_
  rw [List.getElem?_modify, List.getElem?_set]
  by_cases same : k = j
  · subst same
    obtain ⟨inside, rfl⟩ := List.getElem?_eq_some_iff.mp found
    simp [inside]
  · simp [same]

end Priority

/-- Settles O50. -/
theorem effectivePriorityAges : Obligations.EffectivePriorityAges := by
  refine ⟨?ages, fun s c g w => ⟨rfl, rfl⟩, fun s k e d found limit due => ?expires, fun s k notDue => ?stays,
    ?values⟩
  case ages =>
    intro e ageStepMs now waiting aging top bound attained
    rw [Entry.effectivePriority, highestPriority_of_greatest bound attained, Entry.agingLevels,
      Entry.waitingTime_eq]
  case expires =>
    refine congrArg Host.Outcome.next ?_
    rw [State.agingCapExpires, modify_eq_set found, Entry.agingExpired_of_reached limit due]
  case stays =>
    refine congrArg Host.Outcome.next ?_
    have same : s.entries.modify k.val (Entry.agingExpired s.hubTime) = s.entries := by
      refine List.ext_getElem? fun j => ?_
      rw [List.getElem?_modify]
      by_cases here : k.val = j
      · subst here
        cases found : s.entries[k.val]? with
        | none => simp
        | some e => simp [Entry.agingExpired_of_not (notDue e · found)]
      · simp [here]
    rw [State.agingCapExpires, same]
    rfl
  case values =>
    intro waited
    decide

end Sys2Proof.Machine
end
